-- ==== Sys2Proof/Word.lean ====
section
/-!
DEFINITION. The two widths of the block: a byte (the data bus and the 8-bit registers, R100, R14)
and a word (the address bus and the 16-bit registers, R100, R14). Arithmetic on either wraps
modulo 2^N, as R17 says, because it is arithmetic on bit vectors.
-/

namespace Sys2Proof

/-- 8 bits: a register, a memory byte, an immediate `d8`, `a8` or `e8` (R100, R311). -/
abbrev Byte := BitVec 8

/-- 16 bits: an address, SP, PC, a register pair, an immediate `d16` or `a16` (R100, R311). -/
abbrev Word := BitVec 16

end Sys2Proof
end

