-- ==== Sys2Proof/Config.lean ====
section
/-!
DEFINITION. The named parameters of R15. The spec says that the model takes them as arguments, so
they are one record of plain data, held unchanged in `State.cfg` (log entry 1): a statement about
every state is a statement about every value of every parameter. `Config.default` gives each the
default of R15.
-/

namespace Sys2Proof

/-- `P_UNKNOWN_POLICY` (R15, D3): what follows an unknown opcode. -/
inductive UnknownPolicy where
  | continues
  | stops
deriving DecidableEq, Repr

/-- `P_OAM_DMA` (R15, D11): whether a write to 0xFF46 copies 160 bytes into OAM. -/
inductive OamDma where
  | instant
  | none
deriving DecidableEq, Repr

/-- `P_OBJ_OVERLAP` (R15, R1202, D30): which of two overlapping sprites is drawn last. -/
inductive ObjOverlap where
  | laterWins
  | firstWins
deriving DecidableEq, Repr

/-- `P_SHADE` (R15, R1183, D31): the packed pixel of each of the four gray shades. -/
structure Shades where
  white : BitVec 32
  light : BitVec 32
  dark : BitVec 32
  black : BitVec 32
deriving DecidableEq, Repr

/-- The parameters of R15, one field each. The cartridge image, R15's last row, is the input of
`loadRom`, not a field. -/
structure Config where
  /-- `P_IMPLEMENTED` (D1), kept as its complement: the valid opcodes a build leaves out, each as
  the byte zero-extended or as `0xCB00 | op2`. The default leaves out none (log entry 2). -/
  omitted : List Word
  /-- `P_DOTS_PER_MCYCLE` (D2): dots per machine cycle, at least 1. -/
  dotsPerMCycle : Nat
  /-- `P_UNKNOWN_POLICY` (D3). -/
  unknownPolicy : UnknownPolicy
  /-- `P_IRQ_DISPATCH` (D5): whether interrupts are dispatched at all. -/
  irqDispatch : Bool
  /-- `P_HALT_BUG` (D7): whether HALT with IME = 0 and a deliverable interrupt has the bug. -/
  haltBug : Bool
  /-- `P_OAM_DMA` (D11). -/
  oamDma : OamDma
  /-- `P_BOOT_ROM` (D20): none, or the 256 bytes that shadow 0x0000-0x00FF. -/
  bootRom : Option (Vector Byte 256)
  /-- `P_IO_INIT` (D22): the 128 initial bytes of 0xFF00-0xFF7F. -/
  ioInit : Vector Byte 128
  /-- `P_RAM_INIT` (D23) for VRAM, WRAM, OAM and HRAM, as (address, byte) pairs. An address not
  listed starts at the simulator's default, 0x00 (log entry 3). -/
  ramInit : List (Nat × Byte)
  /-- `P_RAM_INIT` (D23) for external RAM, as (8192 * bank + offset, byte) pairs. An offset not
  listed starts at 0x00 (log entry 3). -/
  extRamInit : List (Nat × Byte)
  /-- `P_RAM_BANK_TABLE` (D19): header byte to bank count. A byte not listed gives 0 banks. -/
  ramBankTable : List (Byte × Nat)
  /-- `P_LCDC0_BLANKS` (D27). -/
  lcdc0Blanks : Bool
  /-- `P_OBJ_BG_PRIORITY` (D29). -/
  objBgPriority : Bool
  /-- `P_OBJ_OVERLAP` (D30). -/
  objOverlap : ObjOverlap
  /-- `P_SHADE` (D31). -/
  shade : Shades
  /-- `P_FB_INIT` (D31): what every framebuffer pixel holds before it is first drawn. -/
  fbInit : BitVec 32
deriving DecidableEq, Repr

/-- The default of `P_IO_INIT` with no boot ROM (D22): LCDC = 0x91, BGP = 0xFC, every other byte
0x00. -/
def Config.defaultIoInit : Vector Byte 128 :=
  ((Vector.replicate 128 0x00#8).set 0x40 0x91#8).set 0x47 0xFC#8

/-- The default of `P_RAM_BANK_TABLE` (R252, D19). -/
def Config.defaultRamBankTable : List (Byte × Nat) :=
  [(0x00#8, 0), (0x01#8, 1), (0x02#8, 1), (0x03#8, 4), (0x04#8, 16), (0x05#8, 8)]

/-- Every parameter at the default of R15. -/
def Config.default : Config where
  omitted := []
  dotsPerMCycle := 4
  unknownPolicy := .continues
  irqDispatch := true
  haltBug := true
  oamDma := .instant
  bootRom := none
  ioInit := Config.defaultIoInit
  ramInit := []
  extRamInit := []
  ramBankTable := Config.defaultRamBankTable
  lcdc0Blanks := false
  objBgPriority := false
  objOverlap := .laterWins
  shade := ⟨0xFFFFFFFF#32, 0xAAAAAAFF#32, 0x555555FF#32, 0x000000FF#32⟩
  fbInit := 0x00000000#32

/-- The defaults of R15 with a boot ROM given: `P_IO_INIT` is then all 0x00 (D22). -/
def Config.defaultWithBoot (rom : Vector Byte 256) : Config :=
  { Config.default with bootRom := some rom, ioInit := Vector.replicate 128 0x00#8 }

/-- The bounds R15 puts on the parameters: at least one dot per machine cycle, and four distinct
shades. -/
def Config.wf (c : Config) : Bool :=
  decide (1 ≤ c.dotsPerMCycle) &&
    decide [c.shade.white, c.shade.light, c.shade.dark, c.shade.black].Nodup

end Sys2Proof
end

