-- ==== Sys2Proof/Machine/State.lean ====
section
/-!
DEFINITION. The state of the block as plain data: the CPU (R100-R116), the bus storage and banking
(R120-R122), the PPU (R130), the fault log (R125), the parameters of R15, and two fields of the
model's own. `State.reset` is the state after construction with the default parameters and no boot
ROM (R160, R162, R1300-R1302).
-/

namespace Sys2Proof.Machine

/-- The PPU's mode (R130, R1152). -/
inductive Mode where
  | oamSearch
  | drawing
  | hBlank
  | vBlank
deriving DecidableEq, Repr

/-- One record of the fault log (R125): the address of the first opcode byte, and the opcode, a
byte zero-extended or `0xCB00 | op2`. -/
structure FaultRecord where
  addr : Word
  op : Word
deriving DecidableEq, Repr

/-- The CPU registers (R100-R106) and control bits (R110-R115). -/
structure Cpu where
  a : Byte
  /-- Z, N, H, CY in bits 7..4; bits 3..0 are always 0 (R102). -/
  f : Byte
  b : Byte
  c : Byte
  d : Byte
  e : Byte
  h : Byte
  l : Byte
  sp : Word
  pc : Word
  /-- Interrupt master enable (R110). -/
  ime : Bool
  /-- An EI whose effect is still to come (R111). -/
  eiDelay : Bool
  /-- Waiting in HALT (R112). -/
  halted : Bool
  /-- Waiting in STOP (R113). -/
  stopped : Bool
  /-- The next fetch does not increment pc (R114). -/
  haltBug : Bool
  /-- Stopped for good by an unknown opcode (R115). -/
  faulted : Bool
deriving DecidableEq, Repr

/-- The bus storage (R120), the banking registers (R121) and the boot shadow (R122). The three
stores are (address, byte) lists in the canonical form of `Memory.wf`. -/
structure Bus where
  /-- VRAM, WRAM, OAM, I/O storage and HRAM (R120), keyed by CPU address; echo RAM has no bytes of
  its own (R212). -/
  mem : List Host.Cell
  /-- `rom0` and `rom_banks` (R120, R251), keyed by offset in the cartridge image, 16384 * bank +
  offset. -/
  rom : List Host.Cell
  /-- `ext_ram` (R120), keyed by 8192 * bank + offset. -/
  ext : List Host.Cell
  /-- N, the number of switchable ROM banks (R251). -/
  nRom : Nat
  /-- M, the number of external RAM banks (R252). -/
  nRam : Nat
  /-- `rom_bank` (R121). -/
  romBank : BitVec 5
  /-- `ram_bank` (R121). -/
  ramBank : BitVec 2
  /-- `ram_enable` (R121). -/
  ramEnable : Bool
  /-- `boot_enabled` (R122). -/
  bootEnabled : Bool
  /-- IE, the byte at 0xFFFF (R151). -/
  ie : Byte
deriving DecidableEq, Repr

/-- The PPU's own state (R130). -/
structure Ppu where
  /-- The dot counter, 0..455. -/
  dot : Nat
  /-- The scanline, 0..153. -/
  ly : Nat
  mode : Mode
  /-- The last computed STAT interrupt line. -/
  statLine : Bool
  /-- The framebuffer (R131), keyed by `y*160 + x`; a pixel not listed holds `P_FB_INIT`. -/
  fb : List (Nat × BitVec 32)
deriving DecidableEq, Repr

/-- The whole block. -/
structure State where
  /-- The parameters of R15; no step changes them (log entry 1). -/
  cfg : Config
  cpu : Cpu
  bus : Bus
  ppu : Ppu
  /-- The fault log (R125), oldest record first. -/
  faultLog : List FaultRecord
  /-- The model's own field: the count the last CPU step returned, in machine cycles (R330, R1270);
  the system step hands it to the PPU (log entry 5). -/
  mcycles : Nat
  /-- The model's own field: R330's local `start`, the address of the first opcode byte of the
  instruction being executed (log entry 6). -/
  start : Word
deriving DecidableEq, Repr

/-- Why an operation stops. No instruction and no step of this block raises a fault: every bus
access succeeds (R211, R231) and an unknown opcode is logged and skipped (R1030). -/
inductive Fault where
  /-- Raised by the host operation `loadRom` alone, when the image cannot be read (R253, R1101).
  Safe: the spec names this error and says no state changes. -/
  | ioError
deriving DecidableEq, Repr

/-- Why an instruction has no meaning here. -/
inductive Refusal where
  /-- Raised by `exec` for an instruction without a meaning in this model; no arm does. Safe. -/
  | notModelled (mnemonic : String)
deriving DecidableEq, Repr

/-- The outcome of an instruction, of a CPU step and of a system step. -/
abbrev Result := Host.Outcome State Fault Refusal

/-- The CPU after reset with no boot ROM (R160, R162). -/
def Cpu.reset : Cpu where
  a := 0x01#8
  f := 0xB0#8
  b := 0x00#8
  c := 0x13#8
  d := 0x00#8
  e := 0xD8#8
  h := 0x01#8
  l := 0x4D#8
  sp := 0xFFFE#16
  pc := 0x0100#16
  ime := false
  eiDelay := false
  halted := false
  stopped := false
  haltBug := false
  faulted := false

/-- The bus after reset with the default parameters (R120, R121, R122, R162): no cartridge, no
external RAM, every store at its reset contents. -/
def Bus.reset : Bus where
  mem := []
  rom := []
  ext := []
  nRom := 0
  nRam := 0
  romBank := 1#5
  ramBank := 0#2
  ramEnable := false
  bootEnabled := false
  ie := 0x00#8

/-- The PPU after reset (R130, R162). -/
def Ppu.reset : Ppu where
  dot := 0
  ly := 0
  mode := .oamSearch
  statLine := false
  fb := []

/-- The block after reset (R1300, R1302), every parameter at the default of R15, before the host
loads a cartridge. -/
def State.reset : State where
  cfg := Config.default
  cpu := Cpu.reset
  bus := Bus.reset
  ppu := Ppu.reset
  faultLog := []
  mcycles := 0
  start := 0x0000#16

end Sys2Proof.Machine
end

