-- ==== Sys2Proof/Machine/Memory.lean ====
section
/-!
DEFINITION. Sparse storage in one canonical form, and what each of the block's stores reads where
nothing is listed.
-/

namespace Sys2Proof.Machine

/-- The value stored at key `k`, or `dflt k` where the list has no such key. Keys rise along the
list, so a larger key ends the search. -/
def Cells.get {β : Type} (dflt : Nat → β) (m : List (Nat × β)) (k : Nat) : β :=
  match m with
  | [] => dflt k
  | (k', v) :: m' => if k = k' then v else if k < k' then dflt k else Cells.get dflt m' k

/-- Stores `v` at key `k`, keeping the keys rising and listing no value equal to the default. -/
def Cells.set {β : Type} [DecidableEq β] (dflt : Nat → β) (m : List (Nat × β)) (k : Nat) (v : β) :
    List (Nat × β) :=
  match m with
  | [] => if v = dflt k then [] else [(k, v)]
  | (k', v') :: m' =>
    if k < k' then (if v = dflt k then (k', v') :: m' else (k, v) :: (k', v') :: m')
    else if k = k' then (if v = dflt k then m' else (k, v) :: m')
    else (k', v') :: Cells.set dflt m' k v

/-- The canonical form: keys at least `lo` and strictly rising, no value equal to the default. -/
def Cells.wfFrom {β : Type} [DecidableEq β] (dflt : Nat → β) (lo : Nat) (m : List (Nat × β)) : Bool :=
  match m with
  | [] => true
  | (k, v) :: m' => decide (lo ≤ k) && decide (v ≠ dflt k) && Cells.wfFrom dflt (k + 1) m'

/-- The canonical form of a whole list. -/
def Cells.wf {β : Type} [DecidableEq β] (dflt : Nat → β) (m : List (Nat × β)) : Bool :=
  Cells.wfFrom dflt 0 m

/-- The three stores of R120. -/
inductive Space where
  /-- VRAM, WRAM, OAM, I/O storage and HRAM, keyed by CPU address. -/
  | internal
  /-- `rom0` and `rom_banks`, keyed by image offset. -/
  | cartRom
  /-- `ext_ram`, keyed by 8192 * bank + offset. -/
  | cartRam
deriving DecidableEq, Repr

/-- What a location reads as while nothing is listed for it. ROM with no data reads 0xFF (R120,
R251). RAM reads the simulator's default of `P_RAM_INIT`, 0x00 (R15, D23; log entry 3). I/O storage
reads the default of `P_IO_INIT` with no boot ROM: LCDC 0x91, BGP 0xFC, else 0x00 (R140, D22). -/
def unlisted (sp : Space) (k : Nat) : Byte :=
  match sp with
  | .internal => if k = 0xFF40 then 0x91#8 else if k = 0xFF47 then 0xFC#8 else 0x00#8
  | .cartRom => 0xFF#8
  | .cartRam => 0x00#8

/-- The canonical form of a store. -/
def Memory.wf (sp : Space) (m : List Host.Cell) : Bool :=
  Cells.wf (unlisted sp) m

/-- The addresses of R120 that have storage under their own CPU address: VRAM, WRAM, OAM, the I/O
bytes and HRAM. Echo RAM (R212) and 0xFEA0-0xFEFF (R201) have none. -/
def isInternal (k : Nat) : Bool :=
  decide (0x8000 ≤ k ∧ k ≤ 0x9FFF) || decide (0xC000 ≤ k ∧ k ≤ 0xDFFF) ||
    decide (0xFE00 ≤ k ∧ k ≤ 0xFE9F) || decide (0xFF00 ≤ k ∧ k ≤ 0xFFFE)

/-- The byte at CPU address `k` of internal storage. -/
def State.memAt (s : State) (k : Nat) : Byte := Cells.get (unlisted .internal) s.bus.mem k

/-- Stores a byte at CPU address `k` of internal storage. -/
def State.setMemAt (s : State) (k : Nat) (v : Byte) : State :=
  { s with bus := { s.bus with mem := Cells.set (unlisted .internal) s.bus.mem k v } }

/-- The cartridge ROM byte at image offset `o` (R251). -/
def State.romAt (s : State) (o : Nat) : Byte := Cells.get (unlisted .cartRom) s.bus.rom o

/-- The byte at offset `o` of external RAM bank `b` (R120). -/
def State.extAt (s : State) (b o : Nat) : Byte := Cells.get (unlisted .cartRam) s.bus.ext (8192 * b + o)

/-- Stores a byte at offset `o` of external RAM bank `b`. -/
def State.setExtAt (s : State) (b o : Nat) (v : Byte) : State :=
  { s with bus := { s.bus with ext := Cells.set (unlisted .cartRam) s.bus.ext (8192 * b + o) v } }

/-- The stored I/O byte `io[n]` of R120, n in 0..127; what a bus read of it returns is `ioRead`. -/
def State.io (s : State) (n : Nat) : Byte := s.memAt (0xFF00 + n)

/-- `io[n] <- v`. -/
def State.setIo (s : State) (n : Nat) (v : Byte) : State := s.setMemAt (0xFF00 + n) v

/-- The framebuffer pixel of index `k` (R131). -/
def State.fbAt (s : State) (k : Nat) : BitVec 32 := Cells.get (fun _ => s.cfg.fbInit) s.ppu.fb k

/-- Draws the framebuffer pixel of index `k`. -/
def State.setFbAt (s : State) (k : Nat) (v : BitVec 32) : State :=
  { s with ppu := { s.ppu with fb := Cells.set (fun _ => s.cfg.fbInit) s.ppu.fb k v } }

end Sys2Proof.Machine
end

