-- ==== Sys2Proof/Syntax.lean ====
section
/-!
DEFINITION. The instruction set as syntax: `Instr` has one constructor per row of
spec/opcode_table.json (R350: 244 unprefixed instructions, the 11 unused bytes of R320 and 256
CB-prefixed instructions), the rows with operand bytes first, else in the table's order. A constructor carries exactly the bits the table
gives its operand bytes: `d8`, `a8`, `e8` are bytes, `d16`, `a16` are words (R311), and STOP keeps
the byte it fetches and ignores (R321, R1012). Every value of those fields is encodable.
-/

namespace Sys2Proof

/-- One constructor per row of spec/opcode_table.json; the docstring of each is the spec's name of
the row. -/
inductive Instr where
  /-- `LD BC,d16` (01) -/
  | ldBcD16 (d16 : Word)
  /-- `LD B,d8` (06) -/
  | ldBD8 (d8 : Byte)
  /-- `LD (a16),SP` (08) -/
  | ldAtA16Sp (a16 : Word)
  /-- `LD C,d8` (0E) -/
  | ldCD8 (d8 : Byte)
  /-- `STOP` (10) -/
  | stop (ignored : Byte)
  /-- `LD DE,d16` (11) -/
  | ldDeD16 (d16 : Word)
  /-- `LD D,d8` (16) -/
  | ldDD8 (d8 : Byte)
  /-- `JR e8` (18) -/
  | jrE8 (e8 : Byte)
  /-- `LD E,d8` (1E) -/
  | ldED8 (d8 : Byte)
  /-- `JR NZ,e8` (20) -/
  | jrNzE8 (e8 : Byte)
  /-- `LD HL,d16` (21) -/
  | ldHlD16 (d16 : Word)
  /-- `LD H,d8` (26) -/
  | ldHD8 (d8 : Byte)
  /-- `JR Z,e8` (28) -/
  | jrZE8 (e8 : Byte)
  /-- `LD L,d8` (2E) -/
  | ldLD8 (d8 : Byte)
  /-- `JR NC,e8` (30) -/
  | jrNcE8 (e8 : Byte)
  /-- `LD SP,d16` (31) -/
  | ldSpD16 (d16 : Word)
  /-- `LD (HL),d8` (36) -/
  | ldAtHlD8 (d8 : Byte)
  /-- `JR C,e8` (38) -/
  | jrCE8 (e8 : Byte)
  /-- `LD A,d8` (3E) -/
  | ldAD8 (d8 : Byte)
  /-- `JP NZ,a16` (C2) -/
  | jpNzA16 (a16 : Word)
  /-- `JP a16` (C3) -/
  | jpA16 (a16 : Word)
  /-- `CALL NZ,a16` (C4) -/
  | callNzA16 (a16 : Word)
  /-- `ADD A,d8` (C6) -/
  | addAD8 (d8 : Byte)
  /-- `JP Z,a16` (CA) -/
  | jpZA16 (a16 : Word)
  /-- `CALL Z,a16` (CC) -/
  | callZA16 (a16 : Word)
  /-- `CALL a16` (CD) -/
  | callA16 (a16 : Word)
  /-- `ADC A,d8` (CE) -/
  | adcAD8 (d8 : Byte)
  /-- `JP NC,a16` (D2) -/
  | jpNcA16 (a16 : Word)
  /-- `CALL NC,a16` (D4) -/
  | callNcA16 (a16 : Word)
  /-- `SUB d8` (D6) -/
  | subD8 (d8 : Byte)
  /-- `JP C,a16` (DA) -/
  | jpCA16 (a16 : Word)
  /-- `CALL C,a16` (DC) -/
  | callCA16 (a16 : Word)
  /-- `SBC A,d8` (DE) -/
  | sbcAD8 (d8 : Byte)
  /-- `LDH (a8),A` (E0) -/
  | ldhAtA8A (a8 : Byte)
  /-- `AND d8` (E6) -/
  | andD8 (d8 : Byte)
  /-- `ADD SP,e8` (E8) -/
  | addSpE8 (e8 : Byte)
  /-- `LD (a16),A` (EA) -/
  | ldAtA16A (a16 : Word)
  /-- `XOR d8` (EE) -/
  | xorD8 (d8 : Byte)
  /-- `LDH A,(a8)` (F0) -/
  | ldhAAtA8 (a8 : Byte)
  /-- `OR d8` (F6) -/
  | orD8 (d8 : Byte)
  /-- `LD HL,SP+e8` (F8) -/
  | ldHlSpE8 (e8 : Byte)
  /-- `LD A,(a16)` (FA) -/
  | ldAAtA16 (a16 : Word)
  /-- `CP d8` (FE) -/
  | cpD8 (d8 : Byte)
  /-- `NOP` (00) -/
  | nop
  /-- `LD (BC),A` (02) -/
  | ldAtBcA
  /-- `INC BC` (03) -/
  | incBc
  /-- `INC B` (04) -/
  | incB
  /-- `DEC B` (05) -/
  | decB
  /-- `RLCA` (07) -/
  | rlca
  /-- `ADD HL,BC` (09) -/
  | addHlBc
  /-- `LD A,(BC)` (0A) -/
  | ldAAtBc
  /-- `DEC BC` (0B) -/
  | decBc
  /-- `INC C` (0C) -/
  | incC
  /-- `DEC C` (0D) -/
  | decC
  /-- `RRCA` (0F) -/
  | rrca
  /-- `LD (DE),A` (12) -/
  | ldAtDeA
  /-- `INC DE` (13) -/
  | incDe
  /-- `INC D` (14) -/
  | incD
  /-- `DEC D` (15) -/
  | decD
  /-- `RLA` (17) -/
  | rla
  /-- `ADD HL,DE` (19) -/
  | addHlDe
  /-- `LD A,(DE)` (1A) -/
  | ldAAtDe
  /-- `DEC DE` (1B) -/
  | decDe
  /-- `INC E` (1C) -/
  | incE
  /-- `DEC E` (1D) -/
  | decE
  /-- `RRA` (1F) -/
  | rra
  /-- `LD (HL+),A` (22) -/
  | ldAtHlIncA
  /-- `INC HL` (23) -/
  | incHl
  /-- `INC H` (24) -/
  | incH
  /-- `DEC H` (25) -/
  | decH
  /-- `DAA` (27) -/
  | daa
  /-- `ADD HL,HL` (29) -/
  | addHlHl
  /-- `LD A,(HL+)` (2A) -/
  | ldAAtHlInc
  /-- `DEC HL` (2B) -/
  | decHl
  /-- `INC L` (2C) -/
  | incL
  /-- `DEC L` (2D) -/
  | decL
  /-- `CPL` (2F) -/
  | cpl
  /-- `LD (HL-),A` (32) -/
  | ldAtHlDecA
  /-- `INC SP` (33) -/
  | incSp
  /-- `INC (HL)` (34) -/
  | incAtHl
  /-- `DEC (HL)` (35) -/
  | decAtHl
  /-- `SCF` (37) -/
  | scf
  /-- `ADD HL,SP` (39) -/
  | addHlSp
  /-- `LD A,(HL-)` (3A) -/
  | ldAAtHlDec
  /-- `DEC SP` (3B) -/
  | decSp
  /-- `INC A` (3C) -/
  | incA
  /-- `DEC A` (3D) -/
  | decA
  /-- `CCF` (3F) -/
  | ccf
  /-- `LD B,B` (40) -/
  | ldBB
  /-- `LD B,C` (41) -/
  | ldBC
  /-- `LD B,D` (42) -/
  | ldBD
  /-- `LD B,E` (43) -/
  | ldBE
  /-- `LD B,H` (44) -/
  | ldBH
  /-- `LD B,L` (45) -/
  | ldBL
  /-- `LD B,(HL)` (46) -/
  | ldBAtHl
  /-- `LD B,A` (47) -/
  | ldBA
  /-- `LD C,B` (48) -/
  | ldCB
  /-- `LD C,C` (49) -/
  | ldCC
  /-- `LD C,D` (4A) -/
  | ldCD
  /-- `LD C,E` (4B) -/
  | ldCE
  /-- `LD C,H` (4C) -/
  | ldCH
  /-- `LD C,L` (4D) -/
  | ldCL
  /-- `LD C,(HL)` (4E) -/
  | ldCAtHl
  /-- `LD C,A` (4F) -/
  | ldCA
  /-- `LD D,B` (50) -/
  | ldDB
  /-- `LD D,C` (51) -/
  | ldDC
  /-- `LD D,D` (52) -/
  | ldDD
  /-- `LD D,E` (53) -/
  | ldDE
  /-- `LD D,H` (54) -/
  | ldDH
  /-- `LD D,L` (55) -/
  | ldDL
  /-- `LD D,(HL)` (56) -/
  | ldDAtHl
  /-- `LD D,A` (57) -/
  | ldDA
  /-- `LD E,B` (58) -/
  | ldEB
  /-- `LD E,C` (59) -/
  | ldEC
  /-- `LD E,D` (5A) -/
  | ldED
  /-- `LD E,E` (5B) -/
  | ldEE
  /-- `LD E,H` (5C) -/
  | ldEH
  /-- `LD E,L` (5D) -/
  | ldEL
  /-- `LD E,(HL)` (5E) -/
  | ldEAtHl
  /-- `LD E,A` (5F) -/
  | ldEA
  /-- `LD H,B` (60) -/
  | ldHB
  /-- `LD H,C` (61) -/
  | ldHC
  /-- `LD H,D` (62) -/
  | ldHD
  /-- `LD H,E` (63) -/
  | ldHE
  /-- `LD H,H` (64) -/
  | ldHH
  /-- `LD H,L` (65) -/
  | ldHL
  /-- `LD H,(HL)` (66) -/
  | ldHAtHl
  /-- `LD H,A` (67) -/
  | ldHA
  /-- `LD L,B` (68) -/
  | ldLB
  /-- `LD L,C` (69) -/
  | ldLC
  /-- `LD L,D` (6A) -/
  | ldLD
  /-- `LD L,E` (6B) -/
  | ldLE
  /-- `LD L,H` (6C) -/
  | ldLH
  /-- `LD L,L` (6D) -/
  | ldLL
  /-- `LD L,(HL)` (6E) -/
  | ldLAtHl
  /-- `LD L,A` (6F) -/
  | ldLA
  /-- `LD (HL),B` (70) -/
  | ldAtHlB
  /-- `LD (HL),C` (71) -/
  | ldAtHlC
  /-- `LD (HL),D` (72) -/
  | ldAtHlD
  /-- `LD (HL),E` (73) -/
  | ldAtHlE
  /-- `LD (HL),H` (74) -/
  | ldAtHlH
  /-- `LD (HL),L` (75) -/
  | ldAtHlL
  /-- `HALT` (76) -/
  | halt
  /-- `LD (HL),A` (77) -/
  | ldAtHlA
  /-- `LD A,B` (78) -/
  | ldAB
  /-- `LD A,C` (79) -/
  | ldAC
  /-- `LD A,D` (7A) -/
  | ldAD
  /-- `LD A,E` (7B) -/
  | ldAE
  /-- `LD A,H` (7C) -/
  | ldAH
  /-- `LD A,L` (7D) -/
  | ldAL
  /-- `LD A,(HL)` (7E) -/
  | ldAAtHl
  /-- `LD A,A` (7F) -/
  | ldAA
  /-- `ADD A,B` (80) -/
  | addAB
  /-- `ADD A,C` (81) -/
  | addAC
  /-- `ADD A,D` (82) -/
  | addAD
  /-- `ADD A,E` (83) -/
  | addAE
  /-- `ADD A,H` (84) -/
  | addAH
  /-- `ADD A,L` (85) -/
  | addAL
  /-- `ADD A,(HL)` (86) -/
  | addAAtHl
  /-- `ADD A,A` (87) -/
  | addAA
  /-- `ADC A,B` (88) -/
  | adcAB
  /-- `ADC A,C` (89) -/
  | adcAC
  /-- `ADC A,D` (8A) -/
  | adcAD
  /-- `ADC A,E` (8B) -/
  | adcAE
  /-- `ADC A,H` (8C) -/
  | adcAH
  /-- `ADC A,L` (8D) -/
  | adcAL
  /-- `ADC A,(HL)` (8E) -/
  | adcAAtHl
  /-- `ADC A,A` (8F) -/
  | adcAA
  /-- `SUB B` (90) -/
  | subB
  /-- `SUB C` (91) -/
  | subC
  /-- `SUB D` (92) -/
  | subD
  /-- `SUB E` (93) -/
  | subE
  /-- `SUB H` (94) -/
  | subH
  /-- `SUB L` (95) -/
  | subL
  /-- `SUB (HL)` (96) -/
  | subAtHl
  /-- `SUB A` (97) -/
  | subA
  /-- `SBC A,B` (98) -/
  | sbcAB
  /-- `SBC A,C` (99) -/
  | sbcAC
  /-- `SBC A,D` (9A) -/
  | sbcAD
  /-- `SBC A,E` (9B) -/
  | sbcAE
  /-- `SBC A,H` (9C) -/
  | sbcAH
  /-- `SBC A,L` (9D) -/
  | sbcAL
  /-- `SBC A,(HL)` (9E) -/
  | sbcAAtHl
  /-- `SBC A,A` (9F) -/
  | sbcAA
  /-- `AND B` (A0) -/
  | andB
  /-- `AND C` (A1) -/
  | andC
  /-- `AND D` (A2) -/
  | andD
  /-- `AND E` (A3) -/
  | andE
  /-- `AND H` (A4) -/
  | andH
  /-- `AND L` (A5) -/
  | andL
  /-- `AND (HL)` (A6) -/
  | andAtHl
  /-- `AND A` (A7) -/
  | andA
  /-- `XOR B` (A8) -/
  | xorB
  /-- `XOR C` (A9) -/
  | xorC
  /-- `XOR D` (AA) -/
  | xorD
  /-- `XOR E` (AB) -/
  | xorE
  /-- `XOR H` (AC) -/
  | xorH
  /-- `XOR L` (AD) -/
  | xorL
  /-- `XOR (HL)` (AE) -/
  | xorAtHl
  /-- `XOR A` (AF) -/
  | xorA
  /-- `OR B` (B0) -/
  | orB
  /-- `OR C` (B1) -/
  | orC
  /-- `OR D` (B2) -/
  | orD
  /-- `OR E` (B3) -/
  | orE
  /-- `OR H` (B4) -/
  | orH
  /-- `OR L` (B5) -/
  | orL
  /-- `OR (HL)` (B6) -/
  | orAtHl
  /-- `OR A` (B7) -/
  | orA
  /-- `CP B` (B8) -/
  | cpB
  /-- `CP C` (B9) -/
  | cpC
  /-- `CP D` (BA) -/
  | cpD
  /-- `CP E` (BB) -/
  | cpE
  /-- `CP H` (BC) -/
  | cpH
  /-- `CP L` (BD) -/
  | cpL
  /-- `CP (HL)` (BE) -/
  | cpAtHl
  /-- `CP A` (BF) -/
  | cpA
  /-- `RET NZ` (C0) -/
  | retNz
  /-- `POP BC` (C1) -/
  | popBc
  /-- `PUSH BC` (C5) -/
  | pushBc
  /-- `RST 00H` (C7) -/
  | rst00
  /-- `RET Z` (C8) -/
  | retZ
  /-- `RET` (C9) -/
  | ret
  /-- `RST 08H` (CF) -/
  | rst08
  /-- `RET NC` (D0) -/
  | retNc
  /-- `POP DE` (D1) -/
  | popDe
  /-- `ILLEGAL_D3` (D3) -/
  | illegalD3
  /-- `PUSH DE` (D5) -/
  | pushDe
  /-- `RST 10H` (D7) -/
  | rst10
  /-- `RET C` (D8) -/
  | retC
  /-- `RETI` (D9) -/
  | reti
  /-- `ILLEGAL_DB` (DB) -/
  | illegalDB
  /-- `ILLEGAL_DD` (DD) -/
  | illegalDD
  /-- `RST 18H` (DF) -/
  | rst18
  /-- `POP HL` (E1) -/
  | popHl
  /-- `LD (C),A` (E2) -/
  | ldAtCA
  /-- `ILLEGAL_E3` (E3) -/
  | illegalE3
  /-- `ILLEGAL_E4` (E4) -/
  | illegalE4
  /-- `PUSH HL` (E5) -/
  | pushHl
  /-- `RST 20H` (E7) -/
  | rst20
  /-- `JP (HL)` (E9) -/
  | jpAtHl
  /-- `ILLEGAL_EB` (EB) -/
  | illegalEB
  /-- `ILLEGAL_EC` (EC) -/
  | illegalEC
  /-- `ILLEGAL_ED` (ED) -/
  | illegalED
  /-- `RST 28H` (EF) -/
  | rst28
  /-- `POP AF` (F1) -/
  | popAf
  /-- `LD A,(C)` (F2) -/
  | ldAAtC
  /-- `DI` (F3) -/
  | di
  /-- `ILLEGAL_F4` (F4) -/
  | illegalF4
  /-- `PUSH AF` (F5) -/
  | pushAf
  /-- `RST 30H` (F7) -/
  | rst30
  /-- `LD SP,HL` (F9) -/
  | ldSpHl
  /-- `EI` (FB) -/
  | ei
  /-- `ILLEGAL_FC` (FC) -/
  | illegalFC
  /-- `ILLEGAL_FD` (FD) -/
  | illegalFD
  /-- `RST 38H` (FF) -/
  | rst38
  /-- `RLC B` (CB 00) -/
  | rlcB
  /-- `RLC C` (CB 01) -/
  | rlcC
  /-- `RLC D` (CB 02) -/
  | rlcD
  /-- `RLC E` (CB 03) -/
  | rlcE
  /-- `RLC H` (CB 04) -/
  | rlcH
  /-- `RLC L` (CB 05) -/
  | rlcL
  /-- `RLC (HL)` (CB 06) -/
  | rlcAtHl
  /-- `RLC A` (CB 07) -/
  | rlcA
  /-- `RRC B` (CB 08) -/
  | rrcB
  /-- `RRC C` (CB 09) -/
  | rrcC
  /-- `RRC D` (CB 0A) -/
  | rrcD
  /-- `RRC E` (CB 0B) -/
  | rrcE
  /-- `RRC H` (CB 0C) -/
  | rrcH
  /-- `RRC L` (CB 0D) -/
  | rrcL
  /-- `RRC (HL)` (CB 0E) -/
  | rrcAtHl
  /-- `RRC A` (CB 0F) -/
  | rrcA
  /-- `RL B` (CB 10) -/
  | rlB
  /-- `RL C` (CB 11) -/
  | rlC
  /-- `RL D` (CB 12) -/
  | rlD
  /-- `RL E` (CB 13) -/
  | rlE
  /-- `RL H` (CB 14) -/
  | rlH
  /-- `RL L` (CB 15) -/
  | rlL
  /-- `RL (HL)` (CB 16) -/
  | rlAtHl
  /-- `RL A` (CB 17) -/
  | rlA
  /-- `RR B` (CB 18) -/
  | rrB
  /-- `RR C` (CB 19) -/
  | rrC
  /-- `RR D` (CB 1A) -/
  | rrD
  /-- `RR E` (CB 1B) -/
  | rrE
  /-- `RR H` (CB 1C) -/
  | rrH
  /-- `RR L` (CB 1D) -/
  | rrL
  /-- `RR (HL)` (CB 1E) -/
  | rrAtHl
  /-- `RR A` (CB 1F) -/
  | rrA
  /-- `SLA B` (CB 20) -/
  | slaB
  /-- `SLA C` (CB 21) -/
  | slaC
  /-- `SLA D` (CB 22) -/
  | slaD
  /-- `SLA E` (CB 23) -/
  | slaE
  /-- `SLA H` (CB 24) -/
  | slaH
  /-- `SLA L` (CB 25) -/
  | slaL
  /-- `SLA (HL)` (CB 26) -/
  | slaAtHl
  /-- `SLA A` (CB 27) -/
  | slaA
  /-- `SRA B` (CB 28) -/
  | sraB
  /-- `SRA C` (CB 29) -/
  | sraC
  /-- `SRA D` (CB 2A) -/
  | sraD
  /-- `SRA E` (CB 2B) -/
  | sraE
  /-- `SRA H` (CB 2C) -/
  | sraH
  /-- `SRA L` (CB 2D) -/
  | sraL
  /-- `SRA (HL)` (CB 2E) -/
  | sraAtHl
  /-- `SRA A` (CB 2F) -/
  | sraA
  /-- `SWAP B` (CB 30) -/
  | swapB
  /-- `SWAP C` (CB 31) -/
  | swapC
  /-- `SWAP D` (CB 32) -/
  | swapD
  /-- `SWAP E` (CB 33) -/
  | swapE
  /-- `SWAP H` (CB 34) -/
  | swapH
  /-- `SWAP L` (CB 35) -/
  | swapL
  /-- `SWAP (HL)` (CB 36) -/
  | swapAtHl
  /-- `SWAP A` (CB 37) -/
  | swapA
  /-- `SRL B` (CB 38) -/
  | srlB
  /-- `SRL C` (CB 39) -/
  | srlC
  /-- `SRL D` (CB 3A) -/
  | srlD
  /-- `SRL E` (CB 3B) -/
  | srlE
  /-- `SRL H` (CB 3C) -/
  | srlH
  /-- `SRL L` (CB 3D) -/
  | srlL
  /-- `SRL (HL)` (CB 3E) -/
  | srlAtHl
  /-- `SRL A` (CB 3F) -/
  | srlA
  /-- `BIT 0,B` (CB 40) -/
  | bit0B
  /-- `BIT 0,C` (CB 41) -/
  | bit0C
  /-- `BIT 0,D` (CB 42) -/
  | bit0D
  /-- `BIT 0,E` (CB 43) -/
  | bit0E
  /-- `BIT 0,H` (CB 44) -/
  | bit0H
  /-- `BIT 0,L` (CB 45) -/
  | bit0L
  /-- `BIT 0,(HL)` (CB 46) -/
  | bit0AtHl
  /-- `BIT 0,A` (CB 47) -/
  | bit0A
  /-- `BIT 1,B` (CB 48) -/
  | bit1B
  /-- `BIT 1,C` (CB 49) -/
  | bit1C
  /-- `BIT 1,D` (CB 4A) -/
  | bit1D
  /-- `BIT 1,E` (CB 4B) -/
  | bit1E
  /-- `BIT 1,H` (CB 4C) -/
  | bit1H
  /-- `BIT 1,L` (CB 4D) -/
  | bit1L
  /-- `BIT 1,(HL)` (CB 4E) -/
  | bit1AtHl
  /-- `BIT 1,A` (CB 4F) -/
  | bit1A
  /-- `BIT 2,B` (CB 50) -/
  | bit2B
  /-- `BIT 2,C` (CB 51) -/
  | bit2C
  /-- `BIT 2,D` (CB 52) -/
  | bit2D
  /-- `BIT 2,E` (CB 53) -/
  | bit2E
  /-- `BIT 2,H` (CB 54) -/
  | bit2H
  /-- `BIT 2,L` (CB 55) -/
  | bit2L
  /-- `BIT 2,(HL)` (CB 56) -/
  | bit2AtHl
  /-- `BIT 2,A` (CB 57) -/
  | bit2A
  /-- `BIT 3,B` (CB 58) -/
  | bit3B
  /-- `BIT 3,C` (CB 59) -/
  | bit3C
  /-- `BIT 3,D` (CB 5A) -/
  | bit3D
  /-- `BIT 3,E` (CB 5B) -/
  | bit3E
  /-- `BIT 3,H` (CB 5C) -/
  | bit3H
  /-- `BIT 3,L` (CB 5D) -/
  | bit3L
  /-- `BIT 3,(HL)` (CB 5E) -/
  | bit3AtHl
  /-- `BIT 3,A` (CB 5F) -/
  | bit3A
  /-- `BIT 4,B` (CB 60) -/
  | bit4B
  /-- `BIT 4,C` (CB 61) -/
  | bit4C
  /-- `BIT 4,D` (CB 62) -/
  | bit4D
  /-- `BIT 4,E` (CB 63) -/
  | bit4E
  /-- `BIT 4,H` (CB 64) -/
  | bit4H
  /-- `BIT 4,L` (CB 65) -/
  | bit4L
  /-- `BIT 4,(HL)` (CB 66) -/
  | bit4AtHl
  /-- `BIT 4,A` (CB 67) -/
  | bit4A
  /-- `BIT 5,B` (CB 68) -/
  | bit5B
  /-- `BIT 5,C` (CB 69) -/
  | bit5C
  /-- `BIT 5,D` (CB 6A) -/
  | bit5D
  /-- `BIT 5,E` (CB 6B) -/
  | bit5E
  /-- `BIT 5,H` (CB 6C) -/
  | bit5H
  /-- `BIT 5,L` (CB 6D) -/
  | bit5L
  /-- `BIT 5,(HL)` (CB 6E) -/
  | bit5AtHl
  /-- `BIT 5,A` (CB 6F) -/
  | bit5A
  /-- `BIT 6,B` (CB 70) -/
  | bit6B
  /-- `BIT 6,C` (CB 71) -/
  | bit6C
  /-- `BIT 6,D` (CB 72) -/
  | bit6D
  /-- `BIT 6,E` (CB 73) -/
  | bit6E
  /-- `BIT 6,H` (CB 74) -/
  | bit6H
  /-- `BIT 6,L` (CB 75) -/
  | bit6L
  /-- `BIT 6,(HL)` (CB 76) -/
  | bit6AtHl
  /-- `BIT 6,A` (CB 77) -/
  | bit6A
  /-- `BIT 7,B` (CB 78) -/
  | bit7B
  /-- `BIT 7,C` (CB 79) -/
  | bit7C
  /-- `BIT 7,D` (CB 7A) -/
  | bit7D
  /-- `BIT 7,E` (CB 7B) -/
  | bit7E
  /-- `BIT 7,H` (CB 7C) -/
  | bit7H
  /-- `BIT 7,L` (CB 7D) -/
  | bit7L
  /-- `BIT 7,(HL)` (CB 7E) -/
  | bit7AtHl
  /-- `BIT 7,A` (CB 7F) -/
  | bit7A
  /-- `RES 0,B` (CB 80) -/
  | res0B
  /-- `RES 0,C` (CB 81) -/
  | res0C
  /-- `RES 0,D` (CB 82) -/
  | res0D
  /-- `RES 0,E` (CB 83) -/
  | res0E
  /-- `RES 0,H` (CB 84) -/
  | res0H
  /-- `RES 0,L` (CB 85) -/
  | res0L
  /-- `RES 0,(HL)` (CB 86) -/
  | res0AtHl
  /-- `RES 0,A` (CB 87) -/
  | res0A
  /-- `RES 1,B` (CB 88) -/
  | res1B
  /-- `RES 1,C` (CB 89) -/
  | res1C
  /-- `RES 1,D` (CB 8A) -/
  | res1D
  /-- `RES 1,E` (CB 8B) -/
  | res1E
  /-- `RES 1,H` (CB 8C) -/
  | res1H
  /-- `RES 1,L` (CB 8D) -/
  | res1L
  /-- `RES 1,(HL)` (CB 8E) -/
  | res1AtHl
  /-- `RES 1,A` (CB 8F) -/
  | res1A
  /-- `RES 2,B` (CB 90) -/
  | res2B
  /-- `RES 2,C` (CB 91) -/
  | res2C
  /-- `RES 2,D` (CB 92) -/
  | res2D
  /-- `RES 2,E` (CB 93) -/
  | res2E
  /-- `RES 2,H` (CB 94) -/
  | res2H
  /-- `RES 2,L` (CB 95) -/
  | res2L
  /-- `RES 2,(HL)` (CB 96) -/
  | res2AtHl
  /-- `RES 2,A` (CB 97) -/
  | res2A
  /-- `RES 3,B` (CB 98) -/
  | res3B
  /-- `RES 3,C` (CB 99) -/
  | res3C
  /-- `RES 3,D` (CB 9A) -/
  | res3D
  /-- `RES 3,E` (CB 9B) -/
  | res3E
  /-- `RES 3,H` (CB 9C) -/
  | res3H
  /-- `RES 3,L` (CB 9D) -/
  | res3L
  /-- `RES 3,(HL)` (CB 9E) -/
  | res3AtHl
  /-- `RES 3,A` (CB 9F) -/
  | res3A
  /-- `RES 4,B` (CB A0) -/
  | res4B
  /-- `RES 4,C` (CB A1) -/
  | res4C
  /-- `RES 4,D` (CB A2) -/
  | res4D
  /-- `RES 4,E` (CB A3) -/
  | res4E
  /-- `RES 4,H` (CB A4) -/
  | res4H
  /-- `RES 4,L` (CB A5) -/
  | res4L
  /-- `RES 4,(HL)` (CB A6) -/
  | res4AtHl
  /-- `RES 4,A` (CB A7) -/
  | res4A
  /-- `RES 5,B` (CB A8) -/
  | res5B
  /-- `RES 5,C` (CB A9) -/
  | res5C
  /-- `RES 5,D` (CB AA) -/
  | res5D
  /-- `RES 5,E` (CB AB) -/
  | res5E
  /-- `RES 5,H` (CB AC) -/
  | res5H
  /-- `RES 5,L` (CB AD) -/
  | res5L
  /-- `RES 5,(HL)` (CB AE) -/
  | res5AtHl
  /-- `RES 5,A` (CB AF) -/
  | res5A
  /-- `RES 6,B` (CB B0) -/
  | res6B
  /-- `RES 6,C` (CB B1) -/
  | res6C
  /-- `RES 6,D` (CB B2) -/
  | res6D
  /-- `RES 6,E` (CB B3) -/
  | res6E
  /-- `RES 6,H` (CB B4) -/
  | res6H
  /-- `RES 6,L` (CB B5) -/
  | res6L
  /-- `RES 6,(HL)` (CB B6) -/
  | res6AtHl
  /-- `RES 6,A` (CB B7) -/
  | res6A
  /-- `RES 7,B` (CB B8) -/
  | res7B
  /-- `RES 7,C` (CB B9) -/
  | res7C
  /-- `RES 7,D` (CB BA) -/
  | res7D
  /-- `RES 7,E` (CB BB) -/
  | res7E
  /-- `RES 7,H` (CB BC) -/
  | res7H
  /-- `RES 7,L` (CB BD) -/
  | res7L
  /-- `RES 7,(HL)` (CB BE) -/
  | res7AtHl
  /-- `RES 7,A` (CB BF) -/
  | res7A
  /-- `SET 0,B` (CB C0) -/
  | set0B
  /-- `SET 0,C` (CB C1) -/
  | set0C
  /-- `SET 0,D` (CB C2) -/
  | set0D
  /-- `SET 0,E` (CB C3) -/
  | set0E
  /-- `SET 0,H` (CB C4) -/
  | set0H
  /-- `SET 0,L` (CB C5) -/
  | set0L
  /-- `SET 0,(HL)` (CB C6) -/
  | set0AtHl
  /-- `SET 0,A` (CB C7) -/
  | set0A
  /-- `SET 1,B` (CB C8) -/
  | set1B
  /-- `SET 1,C` (CB C9) -/
  | set1C
  /-- `SET 1,D` (CB CA) -/
  | set1D
  /-- `SET 1,E` (CB CB) -/
  | set1E
  /-- `SET 1,H` (CB CC) -/
  | set1H
  /-- `SET 1,L` (CB CD) -/
  | set1L
  /-- `SET 1,(HL)` (CB CE) -/
  | set1AtHl
  /-- `SET 1,A` (CB CF) -/
  | set1A
  /-- `SET 2,B` (CB D0) -/
  | set2B
  /-- `SET 2,C` (CB D1) -/
  | set2C
  /-- `SET 2,D` (CB D2) -/
  | set2D
  /-- `SET 2,E` (CB D3) -/
  | set2E
  /-- `SET 2,H` (CB D4) -/
  | set2H
  /-- `SET 2,L` (CB D5) -/
  | set2L
  /-- `SET 2,(HL)` (CB D6) -/
  | set2AtHl
  /-- `SET 2,A` (CB D7) -/
  | set2A
  /-- `SET 3,B` (CB D8) -/
  | set3B
  /-- `SET 3,C` (CB D9) -/
  | set3C
  /-- `SET 3,D` (CB DA) -/
  | set3D
  /-- `SET 3,E` (CB DB) -/
  | set3E
  /-- `SET 3,H` (CB DC) -/
  | set3H
  /-- `SET 3,L` (CB DD) -/
  | set3L
  /-- `SET 3,(HL)` (CB DE) -/
  | set3AtHl
  /-- `SET 3,A` (CB DF) -/
  | set3A
  /-- `SET 4,B` (CB E0) -/
  | set4B
  /-- `SET 4,C` (CB E1) -/
  | set4C
  /-- `SET 4,D` (CB E2) -/
  | set4D
  /-- `SET 4,E` (CB E3) -/
  | set4E
  /-- `SET 4,H` (CB E4) -/
  | set4H
  /-- `SET 4,L` (CB E5) -/
  | set4L
  /-- `SET 4,(HL)` (CB E6) -/
  | set4AtHl
  /-- `SET 4,A` (CB E7) -/
  | set4A
  /-- `SET 5,B` (CB E8) -/
  | set5B
  /-- `SET 5,C` (CB E9) -/
  | set5C
  /-- `SET 5,D` (CB EA) -/
  | set5D
  /-- `SET 5,E` (CB EB) -/
  | set5E
  /-- `SET 5,H` (CB EC) -/
  | set5H
  /-- `SET 5,L` (CB ED) -/
  | set5L
  /-- `SET 5,(HL)` (CB EE) -/
  | set5AtHl
  /-- `SET 5,A` (CB EF) -/
  | set5A
  /-- `SET 6,B` (CB F0) -/
  | set6B
  /-- `SET 6,C` (CB F1) -/
  | set6C
  /-- `SET 6,D` (CB F2) -/
  | set6D
  /-- `SET 6,E` (CB F3) -/
  | set6E
  /-- `SET 6,H` (CB F4) -/
  | set6H
  /-- `SET 6,L` (CB F5) -/
  | set6L
  /-- `SET 6,(HL)` (CB F6) -/
  | set6AtHl
  /-- `SET 6,A` (CB F7) -/
  | set6A
  /-- `SET 7,B` (CB F8) -/
  | set7B
  /-- `SET 7,C` (CB F9) -/
  | set7C
  /-- `SET 7,D` (CB FA) -/
  | set7D
  /-- `SET 7,E` (CB FB) -/
  | set7E
  /-- `SET 7,H` (CB FC) -/
  | set7H
  /-- `SET 7,L` (CB FD) -/
  | set7L
  /-- `SET 7,(HL)` (CB FE) -/
  | set7AtHl
  /-- `SET 7,A` (CB FF) -/
  | set7A
deriving DecidableEq, Repr

end Sys2Proof
end

