-- ==== Sys2Proof/Decode.lean ====
section
/-!
DEFINITION. From bytes to instructions and back. The byte-order helpers, the operand decoders of
R310, the opcode maps of R314 and R315 read through the fields x, y, z, p, q of R301, the decoder
(total on any bytes: it refuses by name only bytes that end too early), and the encoder, written
row by row from the grids of R313 and R315.
-/

namespace Sys2Proof

/-! ## Byte order (R260: little-endian) -/

/-- `hi:lo`, the word with high byte `hi` (R16). -/
def joinBytes (hi lo : Byte) : Word := hi ++ lo

/-- Bits 7:0 of a word. -/
def loByte (v : Word) : Byte := v.extractLsb' 0 8

/-- Bits 15:8 of a word. -/
def hiByte (v : Word) : Byte := v.extractLsb' 8 8

/-- `sext_16` of a byte (R17, R311). -/
def sext16 (e : Byte) : Word := e.signExtend 16

/-- `zext_16` of a byte (R17, R311). -/
def zext16 (n : Byte) : Word := n.zeroExtend 16

/-! ## Operand codes (R310) -/

/-- The seven 8-bit registers an operand can name. -/
inductive Reg8 where
  | b | c | d | e | h | l | a
deriving DecidableEq, Repr

/-- `Reg8(code)` of R310: a register, or the memory byte at HL (code 6). -/
inductive Operand8 where
  | reg (r : Reg8)
  | atHl
deriving DecidableEq, Repr

/-- `Reg16(p)` of R310. -/
inductive Reg16 where
  | bc | de | hl | sp
deriving DecidableEq, Repr

/-- `Reg16Stack(p)` of R310. -/
inductive Reg16Stack where
  | bc | de | hl | af
deriving DecidableEq, Repr

/-- `Cond(c)` of R310. -/
inductive Cond where
  | nz | z | nc | c
deriving DecidableEq, Repr

/-- `Alu(y)` of R310. -/
inductive AluOp where
  | add | adc | sub | sbc | and | xor | or | cp
deriving DecidableEq, Repr

/-- `Rot(y)` of R310. -/
inductive RotOp where
  | rlc | rrc | rl | rr | sla | sra | swap | srl
deriving DecidableEq, Repr

/-- A 3-bit field used as a number: `Bit(y)` of R310 and the restart number of R311. -/
inductive Num3 where
  | n0 | n1 | n2 | n3 | n4 | n5 | n6 | n7
deriving DecidableEq, Repr

/-- The number a `Num3` stands for. -/
def Num3.toNat (k : Num3) : Nat :=
  match k with
  | .n0 => 0 | .n1 => 1 | .n2 => 2 | .n3 => 3 | .n4 => 4 | .n5 => 5 | .n6 => 6 | .n7 => 7

/-- `Reg8(code)` (R310): B, C, D, E, H, L, (HL), A. -/
def operand8 (code : BitVec 3) : Operand8 :=
  match code.toNat with
  | 0 => .reg .b | 1 => .reg .c | 2 => .reg .d | 3 => .reg .e
  | 4 => .reg .h | 5 => .reg .l | 6 => .atHl | _ => .reg .a

/-- `Reg16(p)` (R310): BC, DE, HL, SP. -/
def reg16 (p : BitVec 2) : Reg16 :=
  match p.toNat with
  | 0 => .bc | 1 => .de | 2 => .hl | _ => .sp

/-- `Reg16Stack(p)` (R310): BC, DE, HL, AF. -/
def reg16Stack (p : BitVec 2) : Reg16Stack :=
  match p.toNat with
  | 0 => .bc | 1 => .de | 2 => .hl | _ => .af

/-- `Cond(c)` (R310, R900): the condition is `y[1:0]`. -/
def condOf (c : BitVec 2) : Cond :=
  match c.toNat with
  | 0 => .nz | 1 => .z | 2 => .nc | _ => .c

/-- `Alu(y)` (R310). -/
def aluOf (y : BitVec 3) : AluOp :=
  match y.toNat with
  | 0 => .add | 1 => .adc | 2 => .sub | 3 => .sbc | 4 => .and | 5 => .xor | 6 => .or | _ => .cp

/-- `Rot(y)` (R310). -/
def rotOf (y : BitVec 3) : RotOp :=
  match y.toNat with
  | 0 => .rlc | 1 => .rrc | 2 => .rl | 3 => .rr | 4 => .sla | 5 => .sra | 6 => .swap | _ => .srl

/-- `Bit(y)` (R310). -/
def num3 (y : BitVec 3) : Num3 :=
  match y.toNat with
  | 0 => .n0 | 1 => .n1 | 2 => .n2 | 3 => .n3 | 4 => .n4 | 5 => .n5 | 6 => .n6 | _ => .n7

/-! ## The fields of an opcode byte (R301) -/

/-- `x = op[7:6]`. -/
def opX (op : Byte) : BitVec 2 := op.extractLsb' 6 2
/-- `y = op[5:3]`. -/
def opY (op : Byte) : BitVec 3 := op.extractLsb' 3 3
/-- `z = op[2:0]`. -/
def opZ (op : Byte) : BitVec 3 := op.extractLsb' 0 3
/-- `p = op[5:4]`. -/
def opP (op : Byte) : BitVec 2 := op.extractLsb' 4 2
/-- `q = op[3]`. -/
def opQ (op : Byte) : Bool := op.getLsbD 3

/-! ## From operands to the row of the table

Each function names, for every value of its operand fields, the constructor that stands for that
row. The decoder uses them, and so do statements about a whole family of rows. -/

/-- `LD Reg8(y), Reg8(z)`; HALT stands where `LD (HL),(HL)` would (R314, x = 1). -/
def Instr.ld (d : Operand8) (s : Operand8) : Instr :=
  match d, s with
  | .reg .b, .reg .b => .ldBB
  | .reg .b, .reg .c => .ldBC
  | .reg .b, .reg .d => .ldBD
  | .reg .b, .reg .e => .ldBE
  | .reg .b, .reg .h => .ldBH
  | .reg .b, .reg .l => .ldBL
  | .reg .b, .atHl => .ldBAtHl
  | .reg .b, .reg .a => .ldBA
  | .reg .c, .reg .b => .ldCB
  | .reg .c, .reg .c => .ldCC
  | .reg .c, .reg .d => .ldCD
  | .reg .c, .reg .e => .ldCE
  | .reg .c, .reg .h => .ldCH
  | .reg .c, .reg .l => .ldCL
  | .reg .c, .atHl => .ldCAtHl
  | .reg .c, .reg .a => .ldCA
  | .reg .d, .reg .b => .ldDB
  | .reg .d, .reg .c => .ldDC
  | .reg .d, .reg .d => .ldDD
  | .reg .d, .reg .e => .ldDE
  | .reg .d, .reg .h => .ldDH
  | .reg .d, .reg .l => .ldDL
  | .reg .d, .atHl => .ldDAtHl
  | .reg .d, .reg .a => .ldDA
  | .reg .e, .reg .b => .ldEB
  | .reg .e, .reg .c => .ldEC
  | .reg .e, .reg .d => .ldED
  | .reg .e, .reg .e => .ldEE
  | .reg .e, .reg .h => .ldEH
  | .reg .e, .reg .l => .ldEL
  | .reg .e, .atHl => .ldEAtHl
  | .reg .e, .reg .a => .ldEA
  | .reg .h, .reg .b => .ldHB
  | .reg .h, .reg .c => .ldHC
  | .reg .h, .reg .d => .ldHD
  | .reg .h, .reg .e => .ldHE
  | .reg .h, .reg .h => .ldHH
  | .reg .h, .reg .l => .ldHL
  | .reg .h, .atHl => .ldHAtHl
  | .reg .h, .reg .a => .ldHA
  | .reg .l, .reg .b => .ldLB
  | .reg .l, .reg .c => .ldLC
  | .reg .l, .reg .d => .ldLD
  | .reg .l, .reg .e => .ldLE
  | .reg .l, .reg .h => .ldLH
  | .reg .l, .reg .l => .ldLL
  | .reg .l, .atHl => .ldLAtHl
  | .reg .l, .reg .a => .ldLA
  | .atHl, .reg .b => .ldAtHlB
  | .atHl, .reg .c => .ldAtHlC
  | .atHl, .reg .d => .ldAtHlD
  | .atHl, .reg .e => .ldAtHlE
  | .atHl, .reg .h => .ldAtHlH
  | .atHl, .reg .l => .ldAtHlL
  | .atHl, .atHl => .halt
  | .atHl, .reg .a => .ldAtHlA
  | .reg .a, .reg .b => .ldAB
  | .reg .a, .reg .c => .ldAC
  | .reg .a, .reg .d => .ldAD
  | .reg .a, .reg .e => .ldAE
  | .reg .a, .reg .h => .ldAH
  | .reg .a, .reg .l => .ldAL
  | .reg .a, .atHl => .ldAAtHl
  | .reg .a, .reg .a => .ldAA

/-- `Alu(y) A, Reg8(z)` (R314, x = 2; R502). -/
def Instr.alu (o : AluOp) (s : Operand8) : Instr :=
  match o, s with
  | .add, .reg .b => .addAB
  | .add, .reg .c => .addAC
  | .add, .reg .d => .addAD
  | .add, .reg .e => .addAE
  | .add, .reg .h => .addAH
  | .add, .reg .l => .addAL
  | .add, .atHl => .addAAtHl
  | .add, .reg .a => .addAA
  | .adc, .reg .b => .adcAB
  | .adc, .reg .c => .adcAC
  | .adc, .reg .d => .adcAD
  | .adc, .reg .e => .adcAE
  | .adc, .reg .h => .adcAH
  | .adc, .reg .l => .adcAL
  | .adc, .atHl => .adcAAtHl
  | .adc, .reg .a => .adcAA
  | .sub, .reg .b => .subB
  | .sub, .reg .c => .subC
  | .sub, .reg .d => .subD
  | .sub, .reg .e => .subE
  | .sub, .reg .h => .subH
  | .sub, .reg .l => .subL
  | .sub, .atHl => .subAtHl
  | .sub, .reg .a => .subA
  | .sbc, .reg .b => .sbcAB
  | .sbc, .reg .c => .sbcAC
  | .sbc, .reg .d => .sbcAD
  | .sbc, .reg .e => .sbcAE
  | .sbc, .reg .h => .sbcAH
  | .sbc, .reg .l => .sbcAL
  | .sbc, .atHl => .sbcAAtHl
  | .sbc, .reg .a => .sbcAA
  | .and, .reg .b => .andB
  | .and, .reg .c => .andC
  | .and, .reg .d => .andD
  | .and, .reg .e => .andE
  | .and, .reg .h => .andH
  | .and, .reg .l => .andL
  | .and, .atHl => .andAtHl
  | .and, .reg .a => .andA
  | .xor, .reg .b => .xorB
  | .xor, .reg .c => .xorC
  | .xor, .reg .d => .xorD
  | .xor, .reg .e => .xorE
  | .xor, .reg .h => .xorH
  | .xor, .reg .l => .xorL
  | .xor, .atHl => .xorAtHl
  | .xor, .reg .a => .xorA
  | .or, .reg .b => .orB
  | .or, .reg .c => .orC
  | .or, .reg .d => .orD
  | .or, .reg .e => .orE
  | .or, .reg .h => .orH
  | .or, .reg .l => .orL
  | .or, .atHl => .orAtHl
  | .or, .reg .a => .orA
  | .cp, .reg .b => .cpB
  | .cp, .reg .c => .cpC
  | .cp, .reg .d => .cpD
  | .cp, .reg .e => .cpE
  | .cp, .reg .h => .cpH
  | .cp, .reg .l => .cpL
  | .cp, .atHl => .cpAtHl
  | .cp, .reg .a => .cpA

/-- `Alu(y) A,d8` (R314, x = 3, z = 6; R502). -/
def Instr.aluImm (o : AluOp) (n : Byte) : Instr :=
  match o with
  | .add => .addAD8 n
  | .adc => .adcAD8 n
  | .sub => .subD8 n
  | .sbc => .sbcAD8 n
  | .and => .andD8 n
  | .xor => .xorD8 n
  | .or => .orD8 n
  | .cp => .cpD8 n

/-- `INC Reg8(y)` (R314). -/
def Instr.inc8 (r : Operand8) : Instr :=
  match r with
  | .reg .b => .incB
  | .reg .c => .incC
  | .reg .d => .incD
  | .reg .e => .incE
  | .reg .h => .incH
  | .reg .l => .incL
  | .atHl => .incAtHl
  | .reg .a => .incA

/-- `DEC Reg8(y)` (R314). -/
def Instr.dec8 (r : Operand8) : Instr :=
  match r with
  | .reg .b => .decB
  | .reg .c => .decC
  | .reg .d => .decD
  | .reg .e => .decE
  | .reg .h => .decH
  | .reg .l => .decL
  | .atHl => .decAtHl
  | .reg .a => .decA

/-- `LD Reg8(y),d8` (R314). -/
def Instr.ldImm8 (r : Operand8) (n : Byte) : Instr :=
  match r with
  | .reg .b => .ldBD8 n
  | .reg .c => .ldCD8 n
  | .reg .d => .ldDD8 n
  | .reg .e => .ldED8 n
  | .reg .h => .ldHD8 n
  | .reg .l => .ldLD8 n
  | .atHl => .ldAtHlD8 n
  | .reg .a => .ldAD8 n

/-- `LD Reg16(p),d16` (R314). -/
def Instr.ldImm16 (rr : Reg16) (v : Word) : Instr :=
  match rr with
  | .bc => .ldBcD16 v
  | .de => .ldDeD16 v
  | .hl => .ldHlD16 v
  | .sp => .ldSpD16 v

/-- `ADD HL,Reg16(p)` (R314). -/
def Instr.addHl (rr : Reg16) : Instr :=
  match rr with
  | .bc => .addHlBc
  | .de => .addHlDe
  | .hl => .addHlHl
  | .sp => .addHlSp

/-- `INC Reg16(p)` (R314). -/
def Instr.inc16 (rr : Reg16) : Instr :=
  match rr with
  | .bc => .incBc
  | .de => .incDe
  | .hl => .incHl
  | .sp => .incSp

/-- `DEC Reg16(p)` (R314). -/
def Instr.dec16 (rr : Reg16) : Instr :=
  match rr with
  | .bc => .decBc
  | .de => .decDe
  | .hl => .decHl
  | .sp => .decSp

/-- `PUSH Reg16Stack(p)` (R314). -/
def Instr.push (qq : Reg16Stack) : Instr :=
  match qq with
  | .bc => .pushBc
  | .de => .pushDe
  | .hl => .pushHl
  | .af => .pushAf

/-- `POP Reg16Stack(p)` (R314). -/
def Instr.pop (qq : Reg16Stack) : Instr :=
  match qq with
  | .bc => .popBc
  | .de => .popDe
  | .hl => .popHl
  | .af => .popAf

/-- `JP Cond(y),a16` (R314). -/
def Instr.jpCond (cc : Cond) (t : Word) : Instr :=
  match cc with
  | .nz => .jpNzA16 t
  | .z => .jpZA16 t
  | .nc => .jpNcA16 t
  | .c => .jpCA16 t

/-- `CALL Cond(y),a16` (R314). -/
def Instr.callCond (cc : Cond) (t : Word) : Instr :=
  match cc with
  | .nz => .callNzA16 t
  | .z => .callZA16 t
  | .nc => .callNcA16 t
  | .c => .callCA16 t

/-- `JR Cond(y-4),e8` (R314). -/
def Instr.jrCond (cc : Cond) (e : Byte) : Instr :=
  match cc with
  | .nz => .jrNzE8 e
  | .z => .jrZE8 e
  | .nc => .jrNcE8 e
  | .c => .jrCE8 e

/-- `RET Cond(y)` (R314). -/
def Instr.retCond (cc : Cond) : Instr :=
  match cc with
  | .nz => .retNz
  | .z => .retZ
  | .nc => .retNc
  | .c => .retC

/-- `RST y*8` (R314). -/
def Instr.rst (t : Num3) : Instr :=
  match t with
  | .n0 => .rst00
  | .n1 => .rst08
  | .n2 => .rst10
  | .n3 => .rst18
  | .n4 => .rst20
  | .n5 => .rst28
  | .n6 => .rst30
  | .n7 => .rst38

/-- `Rot(y) Reg8(z)` of the CB map (R315, x = 0). -/
def Instr.rot (o : RotOp) (s : Operand8) : Instr :=
  match o, s with
  | .rlc, .reg .b => .rlcB
  | .rlc, .reg .c => .rlcC
  | .rlc, .reg .d => .rlcD
  | .rlc, .reg .e => .rlcE
  | .rlc, .reg .h => .rlcH
  | .rlc, .reg .l => .rlcL
  | .rlc, .atHl => .rlcAtHl
  | .rlc, .reg .a => .rlcA
  | .rrc, .reg .b => .rrcB
  | .rrc, .reg .c => .rrcC
  | .rrc, .reg .d => .rrcD
  | .rrc, .reg .e => .rrcE
  | .rrc, .reg .h => .rrcH
  | .rrc, .reg .l => .rrcL
  | .rrc, .atHl => .rrcAtHl
  | .rrc, .reg .a => .rrcA
  | .rl, .reg .b => .rlB
  | .rl, .reg .c => .rlC
  | .rl, .reg .d => .rlD
  | .rl, .reg .e => .rlE
  | .rl, .reg .h => .rlH
  | .rl, .reg .l => .rlL
  | .rl, .atHl => .rlAtHl
  | .rl, .reg .a => .rlA
  | .rr, .reg .b => .rrB
  | .rr, .reg .c => .rrC
  | .rr, .reg .d => .rrD
  | .rr, .reg .e => .rrE
  | .rr, .reg .h => .rrH
  | .rr, .reg .l => .rrL
  | .rr, .atHl => .rrAtHl
  | .rr, .reg .a => .rrA
  | .sla, .reg .b => .slaB
  | .sla, .reg .c => .slaC
  | .sla, .reg .d => .slaD
  | .sla, .reg .e => .slaE
  | .sla, .reg .h => .slaH
  | .sla, .reg .l => .slaL
  | .sla, .atHl => .slaAtHl
  | .sla, .reg .a => .slaA
  | .sra, .reg .b => .sraB
  | .sra, .reg .c => .sraC
  | .sra, .reg .d => .sraD
  | .sra, .reg .e => .sraE
  | .sra, .reg .h => .sraH
  | .sra, .reg .l => .sraL
  | .sra, .atHl => .sraAtHl
  | .sra, .reg .a => .sraA
  | .swap, .reg .b => .swapB
  | .swap, .reg .c => .swapC
  | .swap, .reg .d => .swapD
  | .swap, .reg .e => .swapE
  | .swap, .reg .h => .swapH
  | .swap, .reg .l => .swapL
  | .swap, .atHl => .swapAtHl
  | .swap, .reg .a => .swapA
  | .srl, .reg .b => .srlB
  | .srl, .reg .c => .srlC
  | .srl, .reg .d => .srlD
  | .srl, .reg .e => .srlE
  | .srl, .reg .h => .srlH
  | .srl, .reg .l => .srlL
  | .srl, .atHl => .srlAtHl
  | .srl, .reg .a => .srlA

/-- `BIT y, Reg8(z)` of the CB map (R315). -/
def Instr.bit (k : Num3) (s : Operand8) : Instr :=
  match k, s with
  | .n0, .reg .b => .bit0B
  | .n0, .reg .c => .bit0C
  | .n0, .reg .d => .bit0D
  | .n0, .reg .e => .bit0E
  | .n0, .reg .h => .bit0H
  | .n0, .reg .l => .bit0L
  | .n0, .atHl => .bit0AtHl
  | .n0, .reg .a => .bit0A
  | .n1, .reg .b => .bit1B
  | .n1, .reg .c => .bit1C
  | .n1, .reg .d => .bit1D
  | .n1, .reg .e => .bit1E
  | .n1, .reg .h => .bit1H
  | .n1, .reg .l => .bit1L
  | .n1, .atHl => .bit1AtHl
  | .n1, .reg .a => .bit1A
  | .n2, .reg .b => .bit2B
  | .n2, .reg .c => .bit2C
  | .n2, .reg .d => .bit2D
  | .n2, .reg .e => .bit2E
  | .n2, .reg .h => .bit2H
  | .n2, .reg .l => .bit2L
  | .n2, .atHl => .bit2AtHl
  | .n2, .reg .a => .bit2A
  | .n3, .reg .b => .bit3B
  | .n3, .reg .c => .bit3C
  | .n3, .reg .d => .bit3D
  | .n3, .reg .e => .bit3E
  | .n3, .reg .h => .bit3H
  | .n3, .reg .l => .bit3L
  | .n3, .atHl => .bit3AtHl
  | .n3, .reg .a => .bit3A
  | .n4, .reg .b => .bit4B
  | .n4, .reg .c => .bit4C
  | .n4, .reg .d => .bit4D
  | .n4, .reg .e => .bit4E
  | .n4, .reg .h => .bit4H
  | .n4, .reg .l => .bit4L
  | .n4, .atHl => .bit4AtHl
  | .n4, .reg .a => .bit4A
  | .n5, .reg .b => .bit5B
  | .n5, .reg .c => .bit5C
  | .n5, .reg .d => .bit5D
  | .n5, .reg .e => .bit5E
  | .n5, .reg .h => .bit5H
  | .n5, .reg .l => .bit5L
  | .n5, .atHl => .bit5AtHl
  | .n5, .reg .a => .bit5A
  | .n6, .reg .b => .bit6B
  | .n6, .reg .c => .bit6C
  | .n6, .reg .d => .bit6D
  | .n6, .reg .e => .bit6E
  | .n6, .reg .h => .bit6H
  | .n6, .reg .l => .bit6L
  | .n6, .atHl => .bit6AtHl
  | .n6, .reg .a => .bit6A
  | .n7, .reg .b => .bit7B
  | .n7, .reg .c => .bit7C
  | .n7, .reg .d => .bit7D
  | .n7, .reg .e => .bit7E
  | .n7, .reg .h => .bit7H
  | .n7, .reg .l => .bit7L
  | .n7, .atHl => .bit7AtHl
  | .n7, .reg .a => .bit7A

/-- `RES y, Reg8(z)` of the CB map (R315). -/
def Instr.res (k : Num3) (s : Operand8) : Instr :=
  match k, s with
  | .n0, .reg .b => .res0B
  | .n0, .reg .c => .res0C
  | .n0, .reg .d => .res0D
  | .n0, .reg .e => .res0E
  | .n0, .reg .h => .res0H
  | .n0, .reg .l => .res0L
  | .n0, .atHl => .res0AtHl
  | .n0, .reg .a => .res0A
  | .n1, .reg .b => .res1B
  | .n1, .reg .c => .res1C
  | .n1, .reg .d => .res1D
  | .n1, .reg .e => .res1E
  | .n1, .reg .h => .res1H
  | .n1, .reg .l => .res1L
  | .n1, .atHl => .res1AtHl
  | .n1, .reg .a => .res1A
  | .n2, .reg .b => .res2B
  | .n2, .reg .c => .res2C
  | .n2, .reg .d => .res2D
  | .n2, .reg .e => .res2E
  | .n2, .reg .h => .res2H
  | .n2, .reg .l => .res2L
  | .n2, .atHl => .res2AtHl
  | .n2, .reg .a => .res2A
  | .n3, .reg .b => .res3B
  | .n3, .reg .c => .res3C
  | .n3, .reg .d => .res3D
  | .n3, .reg .e => .res3E
  | .n3, .reg .h => .res3H
  | .n3, .reg .l => .res3L
  | .n3, .atHl => .res3AtHl
  | .n3, .reg .a => .res3A
  | .n4, .reg .b => .res4B
  | .n4, .reg .c => .res4C
  | .n4, .reg .d => .res4D
  | .n4, .reg .e => .res4E
  | .n4, .reg .h => .res4H
  | .n4, .reg .l => .res4L
  | .n4, .atHl => .res4AtHl
  | .n4, .reg .a => .res4A
  | .n5, .reg .b => .res5B
  | .n5, .reg .c => .res5C
  | .n5, .reg .d => .res5D
  | .n5, .reg .e => .res5E
  | .n5, .reg .h => .res5H
  | .n5, .reg .l => .res5L
  | .n5, .atHl => .res5AtHl
  | .n5, .reg .a => .res5A
  | .n6, .reg .b => .res6B
  | .n6, .reg .c => .res6C
  | .n6, .reg .d => .res6D
  | .n6, .reg .e => .res6E
  | .n6, .reg .h => .res6H
  | .n6, .reg .l => .res6L
  | .n6, .atHl => .res6AtHl
  | .n6, .reg .a => .res6A
  | .n7, .reg .b => .res7B
  | .n7, .reg .c => .res7C
  | .n7, .reg .d => .res7D
  | .n7, .reg .e => .res7E
  | .n7, .reg .h => .res7H
  | .n7, .reg .l => .res7L
  | .n7, .atHl => .res7AtHl
  | .n7, .reg .a => .res7A

/-- `SET y, Reg8(z)` of the CB map (R315). -/
def Instr.set (k : Num3) (s : Operand8) : Instr :=
  match k, s with
  | .n0, .reg .b => .set0B
  | .n0, .reg .c => .set0C
  | .n0, .reg .d => .set0D
  | .n0, .reg .e => .set0E
  | .n0, .reg .h => .set0H
  | .n0, .reg .l => .set0L
  | .n0, .atHl => .set0AtHl
  | .n0, .reg .a => .set0A
  | .n1, .reg .b => .set1B
  | .n1, .reg .c => .set1C
  | .n1, .reg .d => .set1D
  | .n1, .reg .e => .set1E
  | .n1, .reg .h => .set1H
  | .n1, .reg .l => .set1L
  | .n1, .atHl => .set1AtHl
  | .n1, .reg .a => .set1A
  | .n2, .reg .b => .set2B
  | .n2, .reg .c => .set2C
  | .n2, .reg .d => .set2D
  | .n2, .reg .e => .set2E
  | .n2, .reg .h => .set2H
  | .n2, .reg .l => .set2L
  | .n2, .atHl => .set2AtHl
  | .n2, .reg .a => .set2A
  | .n3, .reg .b => .set3B
  | .n3, .reg .c => .set3C
  | .n3, .reg .d => .set3D
  | .n3, .reg .e => .set3E
  | .n3, .reg .h => .set3H
  | .n3, .reg .l => .set3L
  | .n3, .atHl => .set3AtHl
  | .n3, .reg .a => .set3A
  | .n4, .reg .b => .set4B
  | .n4, .reg .c => .set4C
  | .n4, .reg .d => .set4D
  | .n4, .reg .e => .set4E
  | .n4, .reg .h => .set4H
  | .n4, .reg .l => .set4L
  | .n4, .atHl => .set4AtHl
  | .n4, .reg .a => .set4A
  | .n5, .reg .b => .set5B
  | .n5, .reg .c => .set5C
  | .n5, .reg .d => .set5D
  | .n5, .reg .e => .set5E
  | .n5, .reg .h => .set5H
  | .n5, .reg .l => .set5L
  | .n5, .atHl => .set5AtHl
  | .n5, .reg .a => .set5A
  | .n6, .reg .b => .set6B
  | .n6, .reg .c => .set6C
  | .n6, .reg .d => .set6D
  | .n6, .reg .e => .set6E
  | .n6, .reg .h => .set6H
  | .n6, .reg .l => .set6L
  | .n6, .atHl => .set6AtHl
  | .n6, .reg .a => .set6A
  | .n7, .reg .b => .set7B
  | .n7, .reg .c => .set7C
  | .n7, .reg .d => .set7D
  | .n7, .reg .e => .set7E
  | .n7, .reg .h => .set7H
  | .n7, .reg .l => .set7L
  | .n7, .atHl => .set7AtHl
  | .n7, .reg .a => .set7A

/-! ## Decoding -/

/-- What an opcode byte says on its own (R322: it fixes the length): a whole instruction, one that
takes one operand byte, one that takes a little-endian operand word, or the CB prefix (R323). -/
inductive Pattern where
  | whole (i : Instr)
  | withByte (mk : Byte → Instr)
  | withWord (mk : Word → Instr)
  | cbPrefix

/-- x = 0 of the unprefixed map (R314). -/
def decodeX0 (op : Byte) : Pattern :=
  match (opZ op).toNat with
  | 0 =>
    match (opY op).toNat with
    | 0 => .whole .nop
    | 1 => .withWord .ldAtA16Sp
    | 2 => .withByte .stop
    | 3 => .withByte .jrE8
    | _ => .withByte (Instr.jrCond (condOf ((opY op).extractLsb' 0 2)))
  | 1 => if opQ op then .whole (Instr.addHl (reg16 (opP op))) else .withWord (Instr.ldImm16 (reg16 (opP op)))
  | 2 =>
    match (opY op).toNat with
    | 0 => .whole .ldAtBcA
    | 1 => .whole .ldAAtBc
    | 2 => .whole .ldAtDeA
    | 3 => .whole .ldAAtDe
    | 4 => .whole .ldAtHlIncA
    | 5 => .whole .ldAAtHlInc
    | 6 => .whole .ldAtHlDecA
    | _ => .whole .ldAAtHlDec
  | 3 => if opQ op then .whole (Instr.dec16 (reg16 (opP op))) else .whole (Instr.inc16 (reg16 (opP op)))
  | 4 => .whole (Instr.inc8 (operand8 (opY op)))
  | 5 => .whole (Instr.dec8 (operand8 (opY op)))
  | 6 => .withByte (Instr.ldImm8 (operand8 (opY op)))
  | _ =>
    match (opY op).toNat with
    | 0 => .whole .rlca
    | 1 => .whole .rrca
    | 2 => .whole .rla
    | 3 => .whole .rra
    | 4 => .whole .daa
    | 5 => .whole .cpl
    | 6 => .whole .scf
    | _ => .whole .ccf

/-- x = 3 of the unprefixed map (R314). The eleven unused bytes (R320) stand in z = 3, 4 and 5. -/
def decodeX3 (op : Byte) : Pattern :=
  match (opZ op).toNat with
  | 0 =>
    match (opY op).toNat with
    | 4 => .withByte .ldhAtA8A
    | 5 => .withByte .addSpE8
    | 6 => .withByte .ldhAAtA8
    | 7 => .withByte .ldHlSpE8
    | _ => .whole (Instr.retCond (condOf ((opY op).extractLsb' 0 2)))
  | 1 =>
    if opQ op then
      match (opP op).toNat with
      | 0 => .whole .ret
      | 1 => .whole .reti
      | 2 => .whole .jpAtHl
      | _ => .whole .ldSpHl
    else .whole (Instr.pop (reg16Stack (opP op)))
  | 2 =>
    match (opY op).toNat with
    | 4 => .whole .ldAtCA
    | 5 => .withWord .ldAtA16A
    | 6 => .whole .ldAAtC
    | 7 => .withWord .ldAAtA16
    | _ => .withWord (Instr.jpCond (condOf ((opY op).extractLsb' 0 2)))
  | 3 =>
    match (opY op).toNat with
    | 0 => .withWord .jpA16
    | 1 => .cbPrefix
    | 2 => .whole .illegalD3
    | 3 => .whole .illegalDB
    | 4 => .whole .illegalE3
    | 5 => .whole .illegalEB
    | 6 => .whole .di
    | _ => .whole .ei
  | 4 =>
    match (opY op).toNat with
    | 4 => .whole .illegalE4
    | 5 => .whole .illegalEC
    | 6 => .whole .illegalF4
    | 7 => .whole .illegalFC
    | _ => .withWord (Instr.callCond (condOf ((opY op).extractLsb' 0 2)))
  | 5 =>
    if opQ op then
      match (opP op).toNat with
      | 0 => .withWord .callA16
      | 1 => .whole .illegalDD
      | 2 => .whole .illegalED
      | _ => .whole .illegalFD
    else .whole (Instr.push (reg16Stack (opP op)))
  | 6 => .withByte (Instr.aluImm (aluOf (opY op)))
  | _ => .whole (Instr.rst (num3 (opY op)))

/-- The unprefixed opcode map (R314), total on every byte. -/
def decodeOpcode (op : Byte) : Pattern :=
  match (opX op).toNat with
  | 0 => decodeX0 op
  | 1 => .whole (Instr.ld (operand8 (opY op)) (operand8 (opZ op)))
  | 2 => .whole (Instr.alu (aluOf (opY op)) (operand8 (opZ op)))
  | _ => decodeX3 op

/-- The CB-prefixed map (R315), total on every second byte. -/
def decodeCb (op2 : Byte) : Instr :=
  match (opX op2).toNat with
  | 0 => Instr.rot (rotOf (opY op2)) (operand8 (opZ op2))
  | 1 => Instr.bit (num3 (opY op2)) (operand8 (opZ op2))
  | 2 => Instr.res (num3 (opY op2)) (operand8 (opZ op2))
  | _ => Instr.set (num3 (opY op2)) (operand8 (opZ op2))

/-- Why a list of bytes is not the start of an instruction: it ends too early. No byte value is
refused (R321), since the unused bytes of R320 are rows of the table. -/
inductive DecodeError where
  /-- There is no opcode byte. -/
  | noOpcode
  /-- The opcode `op` needs more operand bytes than follow. -/
  | missingOperand (op : Byte)
  /-- 0xCB with no second byte. -/
  | missingCbOpcode
deriving DecidableEq, Repr

/-- Reads one instruction from the front of a list of bytes, lowest address first (R300), and
answers it with the bytes that follow it. -/
def decode (bytes : List Byte) : Except DecodeError (Instr × List Byte) :=
  match bytes with
  | [] => .error .noOpcode
  | op :: rest =>
    match decodeOpcode op with
    | .whole i => .ok (i, rest)
    | .withByte mk =>
      match rest with
      | n :: rest' => .ok (mk n, rest')
      | [] => .error (.missingOperand op)
    | .withWord mk =>
      match rest with
      | lo :: hi :: rest' => .ok (mk (joinBytes hi lo), rest')
      | _ => .error (.missingOperand op)
    | .cbPrefix =>
      match rest with
      | op2 :: rest' => .ok (decodeCb op2, rest')
      | [] => .error .missingCbOpcode

/-! ## Encoding -/

/-- One opcode byte (R300, format F1). -/
def enc1 (op : Byte) : List Byte := [op]
/-- An opcode byte and one operand byte (R300, format F2). -/
def enc2 (op n : Byte) : List Byte := [op, n]
/-- An opcode byte and a little-endian operand word (R300, format F3; R260). -/
def enc3 (op : Byte) (v : Word) : List Byte := [op, loByte v, hiByte v]
/-- The CB prefix and a second opcode byte (R300, format CB). -/
def encCb (op2 : Byte) : List Byte := [0xCB#8, op2]

/-- The bytes of an instruction, lowest address first: the cell of the grid of R313 or R315 that
holds the row, then its operand bytes (R311). -/
def encode (i : Instr) : List Byte :=
  match i with
  | .nop => enc1 0x00#8
  | .ldBcD16 v => enc3 0x01#8 v
  | .ldAtBcA => enc1 0x02#8
  | .incBc => enc1 0x03#8
  | .incB => enc1 0x04#8
  | .decB => enc1 0x05#8
  | .ldBD8 n => enc2 0x06#8 n
  | .rlca => enc1 0x07#8
  | .ldAtA16Sp v => enc3 0x08#8 v
  | .addHlBc => enc1 0x09#8
  | .ldAAtBc => enc1 0x0A#8
  | .decBc => enc1 0x0B#8
  | .incC => enc1 0x0C#8
  | .decC => enc1 0x0D#8
  | .ldCD8 n => enc2 0x0E#8 n
  | .rrca => enc1 0x0F#8
  | .stop n => enc2 0x10#8 n
  | .ldDeD16 v => enc3 0x11#8 v
  | .ldAtDeA => enc1 0x12#8
  | .incDe => enc1 0x13#8
  | .incD => enc1 0x14#8
  | .decD => enc1 0x15#8
  | .ldDD8 n => enc2 0x16#8 n
  | .rla => enc1 0x17#8
  | .jrE8 n => enc2 0x18#8 n
  | .addHlDe => enc1 0x19#8
  | .ldAAtDe => enc1 0x1A#8
  | .decDe => enc1 0x1B#8
  | .incE => enc1 0x1C#8
  | .decE => enc1 0x1D#8
  | .ldED8 n => enc2 0x1E#8 n
  | .rra => enc1 0x1F#8
  | .jrNzE8 n => enc2 0x20#8 n
  | .ldHlD16 v => enc3 0x21#8 v
  | .ldAtHlIncA => enc1 0x22#8
  | .incHl => enc1 0x23#8
  | .incH => enc1 0x24#8
  | .decH => enc1 0x25#8
  | .ldHD8 n => enc2 0x26#8 n
  | .daa => enc1 0x27#8
  | .jrZE8 n => enc2 0x28#8 n
  | .addHlHl => enc1 0x29#8
  | .ldAAtHlInc => enc1 0x2A#8
  | .decHl => enc1 0x2B#8
  | .incL => enc1 0x2C#8
  | .decL => enc1 0x2D#8
  | .ldLD8 n => enc2 0x2E#8 n
  | .cpl => enc1 0x2F#8
  | .jrNcE8 n => enc2 0x30#8 n
  | .ldSpD16 v => enc3 0x31#8 v
  | .ldAtHlDecA => enc1 0x32#8
  | .incSp => enc1 0x33#8
  | .incAtHl => enc1 0x34#8
  | .decAtHl => enc1 0x35#8
  | .ldAtHlD8 n => enc2 0x36#8 n
  | .scf => enc1 0x37#8
  | .jrCE8 n => enc2 0x38#8 n
  | .addHlSp => enc1 0x39#8
  | .ldAAtHlDec => enc1 0x3A#8
  | .decSp => enc1 0x3B#8
  | .incA => enc1 0x3C#8
  | .decA => enc1 0x3D#8
  | .ldAD8 n => enc2 0x3E#8 n
  | .ccf => enc1 0x3F#8
  | .ldBB => enc1 0x40#8
  | .ldBC => enc1 0x41#8
  | .ldBD => enc1 0x42#8
  | .ldBE => enc1 0x43#8
  | .ldBH => enc1 0x44#8
  | .ldBL => enc1 0x45#8
  | .ldBAtHl => enc1 0x46#8
  | .ldBA => enc1 0x47#8
  | .ldCB => enc1 0x48#8
  | .ldCC => enc1 0x49#8
  | .ldCD => enc1 0x4A#8
  | .ldCE => enc1 0x4B#8
  | .ldCH => enc1 0x4C#8
  | .ldCL => enc1 0x4D#8
  | .ldCAtHl => enc1 0x4E#8
  | .ldCA => enc1 0x4F#8
  | .ldDB => enc1 0x50#8
  | .ldDC => enc1 0x51#8
  | .ldDD => enc1 0x52#8
  | .ldDE => enc1 0x53#8
  | .ldDH => enc1 0x54#8
  | .ldDL => enc1 0x55#8
  | .ldDAtHl => enc1 0x56#8
  | .ldDA => enc1 0x57#8
  | .ldEB => enc1 0x58#8
  | .ldEC => enc1 0x59#8
  | .ldED => enc1 0x5A#8
  | .ldEE => enc1 0x5B#8
  | .ldEH => enc1 0x5C#8
  | .ldEL => enc1 0x5D#8
  | .ldEAtHl => enc1 0x5E#8
  | .ldEA => enc1 0x5F#8
  | .ldHB => enc1 0x60#8
  | .ldHC => enc1 0x61#8
  | .ldHD => enc1 0x62#8
  | .ldHE => enc1 0x63#8
  | .ldHH => enc1 0x64#8
  | .ldHL => enc1 0x65#8
  | .ldHAtHl => enc1 0x66#8
  | .ldHA => enc1 0x67#8
  | .ldLB => enc1 0x68#8
  | .ldLC => enc1 0x69#8
  | .ldLD => enc1 0x6A#8
  | .ldLE => enc1 0x6B#8
  | .ldLH => enc1 0x6C#8
  | .ldLL => enc1 0x6D#8
  | .ldLAtHl => enc1 0x6E#8
  | .ldLA => enc1 0x6F#8
  | .ldAtHlB => enc1 0x70#8
  | .ldAtHlC => enc1 0x71#8
  | .ldAtHlD => enc1 0x72#8
  | .ldAtHlE => enc1 0x73#8
  | .ldAtHlH => enc1 0x74#8
  | .ldAtHlL => enc1 0x75#8
  | .halt => enc1 0x76#8
  | .ldAtHlA => enc1 0x77#8
  | .ldAB => enc1 0x78#8
  | .ldAC => enc1 0x79#8
  | .ldAD => enc1 0x7A#8
  | .ldAE => enc1 0x7B#8
  | .ldAH => enc1 0x7C#8
  | .ldAL => enc1 0x7D#8
  | .ldAAtHl => enc1 0x7E#8
  | .ldAA => enc1 0x7F#8
  | .addAB => enc1 0x80#8
  | .addAC => enc1 0x81#8
  | .addAD => enc1 0x82#8
  | .addAE => enc1 0x83#8
  | .addAH => enc1 0x84#8
  | .addAL => enc1 0x85#8
  | .addAAtHl => enc1 0x86#8
  | .addAA => enc1 0x87#8
  | .adcAB => enc1 0x88#8
  | .adcAC => enc1 0x89#8
  | .adcAD => enc1 0x8A#8
  | .adcAE => enc1 0x8B#8
  | .adcAH => enc1 0x8C#8
  | .adcAL => enc1 0x8D#8
  | .adcAAtHl => enc1 0x8E#8
  | .adcAA => enc1 0x8F#8
  | .subB => enc1 0x90#8
  | .subC => enc1 0x91#8
  | .subD => enc1 0x92#8
  | .subE => enc1 0x93#8
  | .subH => enc1 0x94#8
  | .subL => enc1 0x95#8
  | .subAtHl => enc1 0x96#8
  | .subA => enc1 0x97#8
  | .sbcAB => enc1 0x98#8
  | .sbcAC => enc1 0x99#8
  | .sbcAD => enc1 0x9A#8
  | .sbcAE => enc1 0x9B#8
  | .sbcAH => enc1 0x9C#8
  | .sbcAL => enc1 0x9D#8
  | .sbcAAtHl => enc1 0x9E#8
  | .sbcAA => enc1 0x9F#8
  | .andB => enc1 0xA0#8
  | .andC => enc1 0xA1#8
  | .andD => enc1 0xA2#8
  | .andE => enc1 0xA3#8
  | .andH => enc1 0xA4#8
  | .andL => enc1 0xA5#8
  | .andAtHl => enc1 0xA6#8
  | .andA => enc1 0xA7#8
  | .xorB => enc1 0xA8#8
  | .xorC => enc1 0xA9#8
  | .xorD => enc1 0xAA#8
  | .xorE => enc1 0xAB#8
  | .xorH => enc1 0xAC#8
  | .xorL => enc1 0xAD#8
  | .xorAtHl => enc1 0xAE#8
  | .xorA => enc1 0xAF#8
  | .orB => enc1 0xB0#8
  | .orC => enc1 0xB1#8
  | .orD => enc1 0xB2#8
  | .orE => enc1 0xB3#8
  | .orH => enc1 0xB4#8
  | .orL => enc1 0xB5#8
  | .orAtHl => enc1 0xB6#8
  | .orA => enc1 0xB7#8
  | .cpB => enc1 0xB8#8
  | .cpC => enc1 0xB9#8
  | .cpD => enc1 0xBA#8
  | .cpE => enc1 0xBB#8
  | .cpH => enc1 0xBC#8
  | .cpL => enc1 0xBD#8
  | .cpAtHl => enc1 0xBE#8
  | .cpA => enc1 0xBF#8
  | .retNz => enc1 0xC0#8
  | .popBc => enc1 0xC1#8
  | .jpNzA16 v => enc3 0xC2#8 v
  | .jpA16 v => enc3 0xC3#8 v
  | .callNzA16 v => enc3 0xC4#8 v
  | .pushBc => enc1 0xC5#8
  | .addAD8 n => enc2 0xC6#8 n
  | .rst00 => enc1 0xC7#8
  | .retZ => enc1 0xC8#8
  | .ret => enc1 0xC9#8
  | .jpZA16 v => enc3 0xCA#8 v
  | .callZA16 v => enc3 0xCC#8 v
  | .callA16 v => enc3 0xCD#8 v
  | .adcAD8 n => enc2 0xCE#8 n
  | .rst08 => enc1 0xCF#8
  | .retNc => enc1 0xD0#8
  | .popDe => enc1 0xD1#8
  | .jpNcA16 v => enc3 0xD2#8 v
  | .illegalD3 => enc1 0xD3#8
  | .callNcA16 v => enc3 0xD4#8 v
  | .pushDe => enc1 0xD5#8
  | .subD8 n => enc2 0xD6#8 n
  | .rst10 => enc1 0xD7#8
  | .retC => enc1 0xD8#8
  | .reti => enc1 0xD9#8
  | .jpCA16 v => enc3 0xDA#8 v
  | .illegalDB => enc1 0xDB#8
  | .callCA16 v => enc3 0xDC#8 v
  | .illegalDD => enc1 0xDD#8
  | .sbcAD8 n => enc2 0xDE#8 n
  | .rst18 => enc1 0xDF#8
  | .ldhAtA8A n => enc2 0xE0#8 n
  | .popHl => enc1 0xE1#8
  | .ldAtCA => enc1 0xE2#8
  | .illegalE3 => enc1 0xE3#8
  | .illegalE4 => enc1 0xE4#8
  | .pushHl => enc1 0xE5#8
  | .andD8 n => enc2 0xE6#8 n
  | .rst20 => enc1 0xE7#8
  | .addSpE8 n => enc2 0xE8#8 n
  | .jpAtHl => enc1 0xE9#8
  | .ldAtA16A v => enc3 0xEA#8 v
  | .illegalEB => enc1 0xEB#8
  | .illegalEC => enc1 0xEC#8
  | .illegalED => enc1 0xED#8
  | .xorD8 n => enc2 0xEE#8 n
  | .rst28 => enc1 0xEF#8
  | .ldhAAtA8 n => enc2 0xF0#8 n
  | .popAf => enc1 0xF1#8
  | .ldAAtC => enc1 0xF2#8
  | .di => enc1 0xF3#8
  | .illegalF4 => enc1 0xF4#8
  | .pushAf => enc1 0xF5#8
  | .orD8 n => enc2 0xF6#8 n
  | .rst30 => enc1 0xF7#8
  | .ldHlSpE8 n => enc2 0xF8#8 n
  | .ldSpHl => enc1 0xF9#8
  | .ldAAtA16 v => enc3 0xFA#8 v
  | .ei => enc1 0xFB#8
  | .illegalFC => enc1 0xFC#8
  | .illegalFD => enc1 0xFD#8
  | .cpD8 n => enc2 0xFE#8 n
  | .rst38 => enc1 0xFF#8
  | .rlcB => encCb 0x00#8
  | .rlcC => encCb 0x01#8
  | .rlcD => encCb 0x02#8
  | .rlcE => encCb 0x03#8
  | .rlcH => encCb 0x04#8
  | .rlcL => encCb 0x05#8
  | .rlcAtHl => encCb 0x06#8
  | .rlcA => encCb 0x07#8
  | .rrcB => encCb 0x08#8
  | .rrcC => encCb 0x09#8
  | .rrcD => encCb 0x0A#8
  | .rrcE => encCb 0x0B#8
  | .rrcH => encCb 0x0C#8
  | .rrcL => encCb 0x0D#8
  | .rrcAtHl => encCb 0x0E#8
  | .rrcA => encCb 0x0F#8
  | .rlB => encCb 0x10#8
  | .rlC => encCb 0x11#8
  | .rlD => encCb 0x12#8
  | .rlE => encCb 0x13#8
  | .rlH => encCb 0x14#8
  | .rlL => encCb 0x15#8
  | .rlAtHl => encCb 0x16#8
  | .rlA => encCb 0x17#8
  | .rrB => encCb 0x18#8
  | .rrC => encCb 0x19#8
  | .rrD => encCb 0x1A#8
  | .rrE => encCb 0x1B#8
  | .rrH => encCb 0x1C#8
  | .rrL => encCb 0x1D#8
  | .rrAtHl => encCb 0x1E#8
  | .rrA => encCb 0x1F#8
  | .slaB => encCb 0x20#8
  | .slaC => encCb 0x21#8
  | .slaD => encCb 0x22#8
  | .slaE => encCb 0x23#8
  | .slaH => encCb 0x24#8
  | .slaL => encCb 0x25#8
  | .slaAtHl => encCb 0x26#8
  | .slaA => encCb 0x27#8
  | .sraB => encCb 0x28#8
  | .sraC => encCb 0x29#8
  | .sraD => encCb 0x2A#8
  | .sraE => encCb 0x2B#8
  | .sraH => encCb 0x2C#8
  | .sraL => encCb 0x2D#8
  | .sraAtHl => encCb 0x2E#8
  | .sraA => encCb 0x2F#8
  | .swapB => encCb 0x30#8
  | .swapC => encCb 0x31#8
  | .swapD => encCb 0x32#8
  | .swapE => encCb 0x33#8
  | .swapH => encCb 0x34#8
  | .swapL => encCb 0x35#8
  | .swapAtHl => encCb 0x36#8
  | .swapA => encCb 0x37#8
  | .srlB => encCb 0x38#8
  | .srlC => encCb 0x39#8
  | .srlD => encCb 0x3A#8
  | .srlE => encCb 0x3B#8
  | .srlH => encCb 0x3C#8
  | .srlL => encCb 0x3D#8
  | .srlAtHl => encCb 0x3E#8
  | .srlA => encCb 0x3F#8
  | .bit0B => encCb 0x40#8
  | .bit0C => encCb 0x41#8
  | .bit0D => encCb 0x42#8
  | .bit0E => encCb 0x43#8
  | .bit0H => encCb 0x44#8
  | .bit0L => encCb 0x45#8
  | .bit0AtHl => encCb 0x46#8
  | .bit0A => encCb 0x47#8
  | .bit1B => encCb 0x48#8
  | .bit1C => encCb 0x49#8
  | .bit1D => encCb 0x4A#8
  | .bit1E => encCb 0x4B#8
  | .bit1H => encCb 0x4C#8
  | .bit1L => encCb 0x4D#8
  | .bit1AtHl => encCb 0x4E#8
  | .bit1A => encCb 0x4F#8
  | .bit2B => encCb 0x50#8
  | .bit2C => encCb 0x51#8
  | .bit2D => encCb 0x52#8
  | .bit2E => encCb 0x53#8
  | .bit2H => encCb 0x54#8
  | .bit2L => encCb 0x55#8
  | .bit2AtHl => encCb 0x56#8
  | .bit2A => encCb 0x57#8
  | .bit3B => encCb 0x58#8
  | .bit3C => encCb 0x59#8
  | .bit3D => encCb 0x5A#8
  | .bit3E => encCb 0x5B#8
  | .bit3H => encCb 0x5C#8
  | .bit3L => encCb 0x5D#8
  | .bit3AtHl => encCb 0x5E#8
  | .bit3A => encCb 0x5F#8
  | .bit4B => encCb 0x60#8
  | .bit4C => encCb 0x61#8
  | .bit4D => encCb 0x62#8
  | .bit4E => encCb 0x63#8
  | .bit4H => encCb 0x64#8
  | .bit4L => encCb 0x65#8
  | .bit4AtHl => encCb 0x66#8
  | .bit4A => encCb 0x67#8
  | .bit5B => encCb 0x68#8
  | .bit5C => encCb 0x69#8
  | .bit5D => encCb 0x6A#8
  | .bit5E => encCb 0x6B#8
  | .bit5H => encCb 0x6C#8
  | .bit5L => encCb 0x6D#8
  | .bit5AtHl => encCb 0x6E#8
  | .bit5A => encCb 0x6F#8
  | .bit6B => encCb 0x70#8
  | .bit6C => encCb 0x71#8
  | .bit6D => encCb 0x72#8
  | .bit6E => encCb 0x73#8
  | .bit6H => encCb 0x74#8
  | .bit6L => encCb 0x75#8
  | .bit6AtHl => encCb 0x76#8
  | .bit6A => encCb 0x77#8
  | .bit7B => encCb 0x78#8
  | .bit7C => encCb 0x79#8
  | .bit7D => encCb 0x7A#8
  | .bit7E => encCb 0x7B#8
  | .bit7H => encCb 0x7C#8
  | .bit7L => encCb 0x7D#8
  | .bit7AtHl => encCb 0x7E#8
  | .bit7A => encCb 0x7F#8
  | .res0B => encCb 0x80#8
  | .res0C => encCb 0x81#8
  | .res0D => encCb 0x82#8
  | .res0E => encCb 0x83#8
  | .res0H => encCb 0x84#8
  | .res0L => encCb 0x85#8
  | .res0AtHl => encCb 0x86#8
  | .res0A => encCb 0x87#8
  | .res1B => encCb 0x88#8
  | .res1C => encCb 0x89#8
  | .res1D => encCb 0x8A#8
  | .res1E => encCb 0x8B#8
  | .res1H => encCb 0x8C#8
  | .res1L => encCb 0x8D#8
  | .res1AtHl => encCb 0x8E#8
  | .res1A => encCb 0x8F#8
  | .res2B => encCb 0x90#8
  | .res2C => encCb 0x91#8
  | .res2D => encCb 0x92#8
  | .res2E => encCb 0x93#8
  | .res2H => encCb 0x94#8
  | .res2L => encCb 0x95#8
  | .res2AtHl => encCb 0x96#8
  | .res2A => encCb 0x97#8
  | .res3B => encCb 0x98#8
  | .res3C => encCb 0x99#8
  | .res3D => encCb 0x9A#8
  | .res3E => encCb 0x9B#8
  | .res3H => encCb 0x9C#8
  | .res3L => encCb 0x9D#8
  | .res3AtHl => encCb 0x9E#8
  | .res3A => encCb 0x9F#8
  | .res4B => encCb 0xA0#8
  | .res4C => encCb 0xA1#8
  | .res4D => encCb 0xA2#8
  | .res4E => encCb 0xA3#8
  | .res4H => encCb 0xA4#8
  | .res4L => encCb 0xA5#8
  | .res4AtHl => encCb 0xA6#8
  | .res4A => encCb 0xA7#8
  | .res5B => encCb 0xA8#8
  | .res5C => encCb 0xA9#8
  | .res5D => encCb 0xAA#8
  | .res5E => encCb 0xAB#8
  | .res5H => encCb 0xAC#8
  | .res5L => encCb 0xAD#8
  | .res5AtHl => encCb 0xAE#8
  | .res5A => encCb 0xAF#8
  | .res6B => encCb 0xB0#8
  | .res6C => encCb 0xB1#8
  | .res6D => encCb 0xB2#8
  | .res6E => encCb 0xB3#8
  | .res6H => encCb 0xB4#8
  | .res6L => encCb 0xB5#8
  | .res6AtHl => encCb 0xB6#8
  | .res6A => encCb 0xB7#8
  | .res7B => encCb 0xB8#8
  | .res7C => encCb 0xB9#8
  | .res7D => encCb 0xBA#8
  | .res7E => encCb 0xBB#8
  | .res7H => encCb 0xBC#8
  | .res7L => encCb 0xBD#8
  | .res7AtHl => encCb 0xBE#8
  | .res7A => encCb 0xBF#8
  | .set0B => encCb 0xC0#8
  | .set0C => encCb 0xC1#8
  | .set0D => encCb 0xC2#8
  | .set0E => encCb 0xC3#8
  | .set0H => encCb 0xC4#8
  | .set0L => encCb 0xC5#8
  | .set0AtHl => encCb 0xC6#8
  | .set0A => encCb 0xC7#8
  | .set1B => encCb 0xC8#8
  | .set1C => encCb 0xC9#8
  | .set1D => encCb 0xCA#8
  | .set1E => encCb 0xCB#8
  | .set1H => encCb 0xCC#8
  | .set1L => encCb 0xCD#8
  | .set1AtHl => encCb 0xCE#8
  | .set1A => encCb 0xCF#8
  | .set2B => encCb 0xD0#8
  | .set2C => encCb 0xD1#8
  | .set2D => encCb 0xD2#8
  | .set2E => encCb 0xD3#8
  | .set2H => encCb 0xD4#8
  | .set2L => encCb 0xD5#8
  | .set2AtHl => encCb 0xD6#8
  | .set2A => encCb 0xD7#8
  | .set3B => encCb 0xD8#8
  | .set3C => encCb 0xD9#8
  | .set3D => encCb 0xDA#8
  | .set3E => encCb 0xDB#8
  | .set3H => encCb 0xDC#8
  | .set3L => encCb 0xDD#8
  | .set3AtHl => encCb 0xDE#8
  | .set3A => encCb 0xDF#8
  | .set4B => encCb 0xE0#8
  | .set4C => encCb 0xE1#8
  | .set4D => encCb 0xE2#8
  | .set4E => encCb 0xE3#8
  | .set4H => encCb 0xE4#8
  | .set4L => encCb 0xE5#8
  | .set4AtHl => encCb 0xE6#8
  | .set4A => encCb 0xE7#8
  | .set5B => encCb 0xE8#8
  | .set5C => encCb 0xE9#8
  | .set5D => encCb 0xEA#8
  | .set5E => encCb 0xEB#8
  | .set5H => encCb 0xEC#8
  | .set5L => encCb 0xED#8
  | .set5AtHl => encCb 0xEE#8
  | .set5A => encCb 0xEF#8
  | .set6B => encCb 0xF0#8
  | .set6C => encCb 0xF1#8
  | .set6D => encCb 0xF2#8
  | .set6E => encCb 0xF3#8
  | .set6H => encCb 0xF4#8
  | .set6L => encCb 0xF5#8
  | .set6AtHl => encCb 0xF6#8
  | .set6A => encCb 0xF7#8
  | .set7B => encCb 0xF8#8
  | .set7C => encCb 0xF9#8
  | .set7D => encCb 0xFA#8
  | .set7E => encCb 0xFB#8
  | .set7H => encCb 0xFC#8
  | .set7L => encCb 0xFD#8
  | .set7AtHl => encCb 0xFE#8
  | .set7A => encCb 0xFF#8

/-- An instruction's length in bytes: 1, 2 or 3 (R300). -/
def Instr.length (i : Instr) : Nat := (encode i).length

/-- The opcode of an instruction as the fault log records it (R125, R1101): the opcode byte, or
`0xCB00 | op2` for a CB pair. -/
def Instr.opcode (i : Instr) : Word :=
  match encode i with
  | [] => 0x0000#16
  | op :: rest => if op = 0xCB#8 then joinBytes op (rest.headD 0x00#8) else zext16 op

/-! ## Words of the opcode table -/

/-- The three bytes that a word of spec/opcode_table.json stands for, lowest address first, the
bits above `nbits` zero. A row of 16 bits is a CB row, whose value R350 writes `0xCB:op2`: the
prefix, which is fetched first, is bits 15:8 there. A word whose bits 15:8 are not 0xCB is read
with its first byte in bits 7:0 (log entry 4). -/
def tableBytes (nbits w : Nat) : List Byte :=
  if nbits = 16 ∧ w / 256 % 256 = 0xCB then
    [0xCB#8, BitVec.ofNat 8 w, 0x00#8]
  else
    let v := w % 2 ^ nbits
    [BitVec.ofNat 8 v, BitVec.ofNat 8 (v / 256), BitVec.ofNat 8 (v / 65536)]

/-- The instruction the decoder reads from a word of the opcode table. -/
def decodeTableWord (nbits w : Nat) : Option Instr :=
  match decode (tableBytes nbits w) with
  | .ok (i, _) => some i
  | .error _ => none

end Sys2Proof
end

