-- ==== Sys2Proof/Machine/Operands.lean ====
section
/-!
DEFINITION. Reading and writing the registers an instruction names (R101, R310), and the conditions
of R900. The pairs are views of the 8-bit registers, computed here (R101).
-/

namespace Sys2Proof.Machine

/-- `x[r]` for an 8-bit register (R18). -/
def State.reg8 (s : State) (r : Reg8) : Byte :=
  match r with
  | .b => s.cpu.b
  | .c => s.cpu.c
  | .d => s.cpu.d
  | .e => s.cpu.e
  | .h => s.cpu.h
  | .l => s.cpu.l
  | .a => s.cpu.a

/-- `x[r] <- v` for an 8-bit register (R18). -/
def State.setReg8 (s : State) (r : Reg8) (v : Byte) : State :=
  match r with
  | .b => { s with cpu := { s.cpu with b := v } }
  | .c => { s with cpu := { s.cpu with c := v } }
  | .d => { s with cpu := { s.cpu with d := v } }
  | .e => { s with cpu := { s.cpu with e := v } }
  | .h => { s with cpu := { s.cpu with h := v } }
  | .l => { s with cpu := { s.cpu with l := v } }
  | .a => { s with cpu := { s.cpu with a := v } }

/-- `x[AF]` (R101). -/
def State.af (s : State) : Word := joinBytes s.cpu.a s.cpu.f
/-- `x[BC]` (R101). -/
def State.bc (s : State) : Word := joinBytes s.cpu.b s.cpu.c
/-- `x[DE]` (R101). -/
def State.de (s : State) : Word := joinBytes s.cpu.d s.cpu.e
/-- `x[HL]` (R101). -/
def State.hl (s : State) : Word := joinBytes s.cpu.h s.cpu.l

/-- `x[rr]` (R310). -/
def State.reg16 (s : State) (rr : Reg16) : Word :=
  match rr with
  | .bc => s.bc
  | .de => s.de
  | .hl => s.hl
  | .sp => s.cpu.sp

/-- `x[rr] <- v`: the high register takes `v[15:8]`, the low one `v[7:0]` (R101). -/
def State.setReg16 (s : State) (rr : Reg16) (v : Word) : State :=
  match rr with
  | .bc => { s with cpu := { s.cpu with b := hiByte v, c := loByte v } }
  | .de => { s with cpu := { s.cpu with d := hiByte v, e := loByte v } }
  | .hl => { s with cpu := { s.cpu with h := hiByte v, l := loByte v } }
  | .sp => { s with cpu := { s.cpu with sp := v } }

/-- `x[qq]` of a stack pair (R310). -/
def State.reg16Stack (s : State) (qq : Reg16Stack) : Word :=
  match qq with
  | .bc => s.bc
  | .de => s.de
  | .hl => s.hl
  | .af => s.af

/-- `x[qq] <- v` of a stack pair (R441, R442): a write of AF keeps F[3:0] at 0 (R102). -/
def State.setReg16Stack (s : State) (qq : Reg16Stack) (v : Word) : State :=
  match qq with
  | .bc => s.setReg16 .bc v
  | .de => s.setReg16 .de v
  | .hl => s.setReg16 .hl v
  | .af => { s with cpu := { s.cpu with a := hiByte v, f := loByte v &&& 0xF0#8 } }

/-- `pc <- target` (R18). -/
def State.setPc (s : State) (v : Word) : State := { s with cpu := { s.cpu with pc := v } }

/-- `x[SP] <- v` (R18). -/
def State.setSp (s : State) (v : Word) : State := { s with cpu := { s.cpu with sp := v } }

/-- `Cond(c)` (R310, R900) on the flag register. -/
def condHolds (cc : Cond) (f : Byte) : Bool :=
  match cc with
  | .nz => !f.getLsbD 7
  | .z => f.getLsbD 7
  | .nc => !f.getLsbD 4
  | .c => f.getLsbD 4

/-- The address of `(a8)` and `(C)`: `0xFF00 + zext_16(n)` (R311, R400). -/
def highPage (n : Byte) : Word := 0xFF00#16 + zext16 n

/-- The RST target `zext_16(y) << 3` (R311, R920). -/
def rstTarget (t : Num3) : Word := BitVec.ofNat 16 (8 * t.toNat)

end Sys2Proof.Machine
end

