-- ==== Sys2Proof/WellFormed.lean ====
section
/-!
DEFINITION. Which terms of `Instr` are instructions. The operand fields have exact widths, so no
operand can be out of range (R1100: an invalid selector cannot be expressed); what is left to check
is that the row is an instruction at all: the 11 unused bytes of R320 "encode no instruction". The
244 unprefixed and 256 CB-prefixed rows of R10 are well formed.
-/

namespace Sys2Proof

/-- Whether the row is one of the 500 instructions of R10; the 11 unused bytes of R320 are not. -/
def Instr.wellFormed (i : Instr) : Bool :=
  match i with
  | .illegalD3 | .illegalDB | .illegalDD | .illegalE3 | .illegalE4 | .illegalEB | .illegalEC => false
  | .illegalED | .illegalF4 | .illegalFC | .illegalFD => false
  | .nop | .ldBcD16 _ | .ldAtBcA | .incBc | .incB | .decB | .ldBD8 _ => true
  | .rlca | .ldAtA16Sp _ | .addHlBc | .ldAAtBc | .decBc | .incC | .decC => true
  | .ldCD8 _ | .rrca | .stop _ | .ldDeD16 _ | .ldAtDeA | .incDe | .incD => true
  | .decD | .ldDD8 _ | .rla | .jrE8 _ | .addHlDe | .ldAAtDe | .decDe => true
  | .incE | .decE | .ldED8 _ | .rra | .jrNzE8 _ | .ldHlD16 _ | .ldAtHlIncA => true
  | .incHl | .incH | .decH | .ldHD8 _ | .daa | .jrZE8 _ | .addHlHl => true
  | .ldAAtHlInc | .decHl | .incL | .decL | .ldLD8 _ | .cpl | .jrNcE8 _ => true
  | .ldSpD16 _ | .ldAtHlDecA | .incSp | .incAtHl | .decAtHl | .ldAtHlD8 _ | .scf => true
  | .jrCE8 _ | .addHlSp | .ldAAtHlDec | .decSp | .incA | .decA | .ldAD8 _ => true
  | .ccf | .ldBB | .ldBC | .ldBD | .ldBE | .ldBH | .ldBL => true
  | .ldBAtHl | .ldBA | .ldCB | .ldCC | .ldCD | .ldCE | .ldCH => true
  | .ldCL | .ldCAtHl | .ldCA | .ldDB | .ldDC | .ldDD | .ldDE => true
  | .ldDH | .ldDL | .ldDAtHl | .ldDA | .ldEB | .ldEC | .ldED => true
  | .ldEE | .ldEH | .ldEL | .ldEAtHl | .ldEA | .ldHB | .ldHC => true
  | .ldHD | .ldHE | .ldHH | .ldHL | .ldHAtHl | .ldHA | .ldLB => true
  | .ldLC | .ldLD | .ldLE | .ldLH | .ldLL | .ldLAtHl | .ldLA => true
  | .ldAtHlB | .ldAtHlC | .ldAtHlD | .ldAtHlE | .ldAtHlH | .ldAtHlL | .halt => true
  | .ldAtHlA | .ldAB | .ldAC | .ldAD | .ldAE | .ldAH | .ldAL => true
  | .ldAAtHl | .ldAA | .addAB | .addAC | .addAD | .addAE | .addAH => true
  | .addAL | .addAAtHl | .addAA | .adcAB | .adcAC | .adcAD | .adcAE => true
  | .adcAH | .adcAL | .adcAAtHl | .adcAA | .subB | .subC | .subD => true
  | .subE | .subH | .subL | .subAtHl | .subA | .sbcAB | .sbcAC => true
  | .sbcAD | .sbcAE | .sbcAH | .sbcAL | .sbcAAtHl | .sbcAA | .andB => true
  | .andC | .andD | .andE | .andH | .andL | .andAtHl | .andA => true
  | .xorB | .xorC | .xorD | .xorE | .xorH | .xorL | .xorAtHl => true
  | .xorA | .orB | .orC | .orD | .orE | .orH | .orL => true
  | .orAtHl | .orA | .cpB | .cpC | .cpD | .cpE | .cpH => true
  | .cpL | .cpAtHl | .cpA | .retNz | .popBc | .jpNzA16 _ | .jpA16 _ => true
  | .callNzA16 _ | .pushBc | .addAD8 _ | .rst00 | .retZ | .ret | .jpZA16 _ => true
  | .callZA16 _ | .callA16 _ | .adcAD8 _ | .rst08 | .retNc | .popDe | .jpNcA16 _ => true
  | .callNcA16 _ | .pushDe | .subD8 _ | .rst10 | .retC | .reti | .jpCA16 _ => true
  | .callCA16 _ | .sbcAD8 _ | .rst18 | .ldhAtA8A _ | .popHl | .ldAtCA | .pushHl => true
  | .andD8 _ | .rst20 | .addSpE8 _ | .jpAtHl | .ldAtA16A _ | .xorD8 _ | .rst28 => true
  | .ldhAAtA8 _ | .popAf | .ldAAtC | .di | .pushAf | .orD8 _ | .rst30 => true
  | .ldHlSpE8 _ | .ldSpHl | .ldAAtA16 _ | .ei | .cpD8 _ | .rst38 | .rlcB => true
  | .rlcC | .rlcD | .rlcE | .rlcH | .rlcL | .rlcAtHl | .rlcA => true
  | .rrcB | .rrcC | .rrcD | .rrcE | .rrcH | .rrcL | .rrcAtHl => true
  | .rrcA | .rlB | .rlC | .rlD | .rlE | .rlH | .rlL => true
  | .rlAtHl | .rlA | .rrB | .rrC | .rrD | .rrE | .rrH => true
  | .rrL | .rrAtHl | .rrA | .slaB | .slaC | .slaD | .slaE => true
  | .slaH | .slaL | .slaAtHl | .slaA | .sraB | .sraC | .sraD => true
  | .sraE | .sraH | .sraL | .sraAtHl | .sraA | .swapB | .swapC => true
  | .swapD | .swapE | .swapH | .swapL | .swapAtHl | .swapA | .srlB => true
  | .srlC | .srlD | .srlE | .srlH | .srlL | .srlAtHl | .srlA => true
  | .bit0B | .bit0C | .bit0D | .bit0E | .bit0H | .bit0L | .bit0AtHl => true
  | .bit0A | .bit1B | .bit1C | .bit1D | .bit1E | .bit1H | .bit1L => true
  | .bit1AtHl | .bit1A | .bit2B | .bit2C | .bit2D | .bit2E | .bit2H => true
  | .bit2L | .bit2AtHl | .bit2A | .bit3B | .bit3C | .bit3D | .bit3E => true
  | .bit3H | .bit3L | .bit3AtHl | .bit3A | .bit4B | .bit4C | .bit4D => true
  | .bit4E | .bit4H | .bit4L | .bit4AtHl | .bit4A | .bit5B | .bit5C => true
  | .bit5D | .bit5E | .bit5H | .bit5L | .bit5AtHl | .bit5A | .bit6B => true
  | .bit6C | .bit6D | .bit6E | .bit6H | .bit6L | .bit6AtHl | .bit6A => true
  | .bit7B | .bit7C | .bit7D | .bit7E | .bit7H | .bit7L | .bit7AtHl => true
  | .bit7A | .res0B | .res0C | .res0D | .res0E | .res0H | .res0L => true
  | .res0AtHl | .res0A | .res1B | .res1C | .res1D | .res1E | .res1H => true
  | .res1L | .res1AtHl | .res1A | .res2B | .res2C | .res2D | .res2E => true
  | .res2H | .res2L | .res2AtHl | .res2A | .res3B | .res3C | .res3D => true
  | .res3E | .res3H | .res3L | .res3AtHl | .res3A | .res4B | .res4C => true
  | .res4D | .res4E | .res4H | .res4L | .res4AtHl | .res4A | .res5B => true
  | .res5C | .res5D | .res5E | .res5H | .res5L | .res5AtHl | .res5A => true
  | .res6B | .res6C | .res6D | .res6E | .res6H | .res6L | .res6AtHl => true
  | .res6A | .res7B | .res7C | .res7D | .res7E | .res7H | .res7L => true
  | .res7AtHl | .res7A | .set0B | .set0C | .set0D | .set0E | .set0H => true
  | .set0L | .set0AtHl | .set0A | .set1B | .set1C | .set1D | .set1E => true
  | .set1H | .set1L | .set1AtHl | .set1A | .set2B | .set2C | .set2D => true
  | .set2E | .set2H | .set2L | .set2AtHl | .set2A | .set3B | .set3C => true
  | .set3D | .set3E | .set3H | .set3L | .set3AtHl | .set3A | .set4B => true
  | .set4C | .set4D | .set4E | .set4H | .set4L | .set4AtHl | .set4A => true
  | .set5B | .set5C | .set5D | .set5E | .set5H | .set5L | .set5AtHl => true
  | .set5A | .set6B | .set6C | .set6D | .set6E | .set6H | .set6L => true
  | .set6AtHl | .set6A | .set7B | .set7C | .set7D | .set7E | .set7H => true
  | .set7L | .set7AtHl | .set7A => true

/-- Whether a build with parameters `c` implements the opcode `code` (R321, R330): `P_IMPLEMENTED`
is kept as the list of opcodes left out. `code` is the opcode byte zero-extended, or
`0xCB00 | op2`. -/
def Config.implements (c : Config) (code : Word) : Bool :=
  !c.omitted.contains code

end Sys2Proof
end

