-- ==== Sys2Proof/Machine/Ops.lean ====
section
/-!
DEFINITION. The named operations of the spec over memory, registers and control state: the bus read
and write with the I/O registers and the banking controller (R140-R153, R210-R247), the fetch and
stack primitives (R20), interrupt requests, taking an interrupt and returning from one (R1105-R1126),
and the unknown-opcode fallback (R1030).
-/

namespace Sys2Proof.Machine

/-! ## The I/O registers (R140-R153) -/

/-- `modecode` of STAT bits 1:0 (R142). -/
def modeCode (m : Mode) : Byte :=
  match m with
  | .hBlank => 0x00#8
  | .vBlank => 0x01#8
  | .oamSearch => 0x02#8
  | .drawing => 0x03#8

/-- A read of STAT (R142): bit 7 reads 1, bits 6..3 are stored, bit 2 compares `ly` with LYC, bits
1:0 show the mode. -/
def statRead (s : State) : Byte :=
  0x80#8 ||| (s.io 0x41 &&& 0x78#8) |||
    (if s.ppu.ly = (s.io 0x45).toNat then 0x04#8 else 0x00#8) ||| modeCode s.ppu.mode

/-- `IoRead` of the byte at 0xFF00 + `n` (R140-R153). -/
def ioRead (s : State) (n : Nat) : Byte :=
  if n = 0x0F then 0xE0#8 ||| (s.io 0x0F &&& 0x1F#8)
  else if n = 0x41 then statRead s
  else if n = 0x44 then BitVec.ofNat 8 s.ppu.ly
  else if n = 0x50 then 0xFF#8
  else s.io n

/-! ## The bus read (R210-R214) -/

/-- The boot ROM byte at `k`; a block without a boot ROM has none to show, and its shadow is off
from reset on (R122). -/
def bootByte (s : State) (k : Nat) : Byte :=
  match s.cfg.bootRom with
  | some rom => rom.toArray.getD k 0xFF#8
  | none => 0xFF#8

/-- `MemRead(a, 1)` (R210), first match wins; total, with no effect on the state (R211). -/
def memRead (s : State) (a : Word) : Byte :=
  let k := a.toNat
  if s.bus.bootEnabled = true ∧ k ≤ 0x00FF then bootByte s k
  else if k ≤ 0x3FFF then s.romAt k
  else if k ≤ 0x7FFF then
    if 1 ≤ s.bus.romBank.toNat ∧ s.bus.romBank.toNat ≤ s.bus.nRom then
      s.romAt (16384 * s.bus.romBank.toNat + (k - 0x4000))
    else 0xFF#8
  else if k ≤ 0x9FFF then s.memAt k
  else if k ≤ 0xBFFF then
    if s.bus.ramEnable = true ∧ s.bus.ramBank.toNat < s.bus.nRam then
      s.extAt s.bus.ramBank.toNat (k - 0xA000)
    else 0xFF#8
  else if k ≤ 0xDFFF then s.memAt k
  else if k ≤ 0xFDFF then s.memAt (k - 0x2000)
  else if k ≤ 0xFE9F then s.memAt k
  else if k ≤ 0xFEFF then 0xFF#8
  else if k ≤ 0xFF7F then ioRead s (k - 0xFF00)
  else if k ≤ 0xFFFE then s.memAt k
  else s.bus.ie

/-! ## The bus write (R230-R247) -/

/-- One byte of the OAM copy of R233. -/
def oamCopyByte (src : Word) (s : State) (i : Nat) : State :=
  s.setMemAt (0xFE00 + i) (memRead s (src + BitVec.ofNat 16 i))

/-- The OAM copy of R233: 160 bytes from `src`, in ascending order, each read from the state the
earlier ones left. -/
def oamCopy (src : Word) (s : State) : State :=
  (List.range 160).foldl (oamCopyByte src) s

/-- A write of `v` to DMA (R146, R233). -/
def dmaWrite (v : Byte) (s : State) : State :=
  let t := s.setIo 0x46 v
  match s.cfg.oamDma with
  | .instant => oamCopy (zext16 v <<< 8) t
  | .none => t

/-- A write of `v` to BOOT (R152, R232): one way only. -/
def bootWrite (v : Byte) (s : State) : State :=
  if v ≠ 0x00#8 ∧ s.bus.bootEnabled = true then
    { s with bus := { s.bus with bootEnabled := false } }
  else s

/-- `IoWrite` of the byte at 0xFF00 + `n` (R140-R153, R234). -/
def ioWrite (n : Nat) (v : Byte) (s : State) : State :=
  if n = 0x0F then s.setIo 0x0F (v &&& 0x1F#8)
  else if n = 0x41 then s.setIo 0x41 ((s.io 0x41 &&& 0x87#8) ||| (v &&& 0x78#8))
  else if n = 0x44 then s
  else if n = 0x46 then dmaWrite v s
  else if n = 0x50 then bootWrite v s
  else s.setIo n v

/-- A write to the RAM-enable range (R241). -/
def ramEnableWrite (v : Byte) (s : State) : State :=
  { s with bus := { s.bus with ramEnable := decide (v &&& 0x0F#8 = 0x0A#8) } }

/-- A write to the ROM-bank range (R242): bank 0 is forced to 1. -/
def romBankWrite (v : Byte) (s : State) : State :=
  let b : BitVec 5 := (v &&& 0x1F#8).extractLsb' 0 5
  { s with bus := { s.bus with romBank := if b = 0#5 then 1#5 else b } }

/-- A write to the RAM-bank range (R243). -/
def ramBankWrite (v : Byte) (s : State) : State :=
  { s with bus := { s.bus with ramBank := (v &&& 0x03#8).extractLsb' 0 2 } }

/-- `MemWrite(a, 1, v)` (R230), first match wins; total. -/
def memWrite (a : Word) (v : Byte) (s : State) : State :=
  let k := a.toNat
  if k ≤ 0x1FFF then ramEnableWrite v s
  else if k ≤ 0x3FFF then romBankWrite v s
  else if k ≤ 0x5FFF then ramBankWrite v s
  else if k ≤ 0x7FFF then s
  else if k ≤ 0x9FFF then s.setMemAt k v
  else if k ≤ 0xBFFF then
    if s.bus.ramEnable = true ∧ s.bus.ramBank.toNat < s.bus.nRam then
      s.setExtAt s.bus.ramBank.toNat (k - 0xA000) v
    else s
  else if k ≤ 0xDFFF then s.setMemAt k v
  else if k ≤ 0xFDFF then s.setMemAt (k - 0x2000) v
  else if k ≤ 0xFE9F then s.setMemAt k v
  else if k ≤ 0xFEFF then s
  else if k ≤ 0xFF7F then ioWrite (k - 0xFF00) v s
  else if k ≤ 0xFFFE then s.setMemAt k v
  else { s with bus := { s.bus with ie := v } }

/-- `MemWrite(a, 2, v)` (R19): the low byte first, at the lower address. -/
def memWrite16 (a : Word) (v : Word) (s : State) : State :=
  memWrite (a + 1#16) (hiByte v) (memWrite a (loByte v) s)

/-! ## Fetch and stack (R20) -/

/-- `fetch8()` (R20): the byte at pc, and the state with pc advanced, or, under the HALT bug, with
pc left and the bug cleared (R1011). -/
def fetch8 (s : State) : Byte × State :=
  (memRead s s.cpu.pc,
    if s.cpu.haltBug then { s with cpu := { s.cpu with haltBug := false } }
    else s.setPc (s.cpu.pc + 1#16))

/-- `fetch16()` (R20): low byte first. -/
def fetch16 (s : State) : Word × State :=
  let (lo, s1) := fetch8 s
  let (hi, s2) := fetch8 s1
  (joinBytes hi lo, s2)

/-- One byte pushed: SP is decremented, then the byte is written at it (R20). -/
def push8 (v : Byte) (s : State) : State :=
  memWrite (s.cpu.sp - 1#16) v (s.setSp (s.cpu.sp - 1#16))

/-- `push16(v)` (R20): the high byte, then the low byte. -/
def push16 (v : Word) (s : State) : State :=
  push8 (loByte v) (push8 (hiByte v) s)

/-- The value `pop16()` returns (R20): low byte at SP, high byte at SP + 1. -/
def popValue (s : State) : Word :=
  joinBytes (memRead s (s.cpu.sp + 1#16)) (memRead s s.cpu.sp)

/-- The state `pop16()` leaves (R20): SP two higher. -/
def popState (s : State) : State := s.setSp (s.cpu.sp + 2#16)

/-! ## Ending an instruction -/

/-- `cycles(n)` (R21): the CPU step returns `n` machine cycles. -/
def State.setCycles (s : State) (n : Nat) : State := { s with mcycles := n }

/-- The instruction is done and returns `n` machine cycles. -/
def retire (n : Nat) (s : State) : Result := .next (s.setCycles n)

/-! ## Interrupts (R1105-R1126) -/

/-- `request(k)` (R1105): sets bit `k` of IF. -/
def request (k : Nat) (s : State) : State :=
  s.setIo 0x0F (s.io 0x0F ||| (1#8 <<< k))

/-- `IE & IF & 0x1F`: the deliverable sources (R1107). -/
def deliverable (s : State) : Byte := s.bus.ie &&& s.io 0x0F &&& 0x1F#8

/-- The highest-priority deliverable source: the lowest set bit (R1106, R1110). -/
def pendingIrq (s : State) : Option Nat :=
  let d := deliverable s
  if d.getLsbD 0 then some 0
  else if d.getLsbD 1 then some 1
  else if d.getLsbD 2 then some 2
  else if d.getLsbD 3 then some 3
  else if d.getLsbD 4 then some 4
  else none

/-- The vector of source `k` (R1106, R1121). -/
def irqVector (k : Nat) : Word := BitVec.ofNat 16 (0x0040 + 8 * k)

/-- The return address of a dispatch: pc, or one less under the HALT bug (R1120, R1011). -/
def irqReturn (s : State) : Word := if s.cpu.haltBug then s.cpu.pc - 1#16 else s.cpu.pc

/-- Taking interrupt `k` (R1120): the request is acknowledged, IME, a pending EI and the HALT bug
are cleared, the return address is pushed and pc goes to the vector, in 5 machine cycles. -/
def dispatchInterrupt (k : Nat) (s : State) : State :=
  let ret := irqReturn s
  let s1 := s.setIo 0x0F (s.io 0x0F &&& ~~~(1#8 <<< k))
  let s2 := { s1 with cpu := { s1.cpu with ime := false, eiDelay := false, haltBug := false } }
  ((push16 ret s2).setPc (irqVector k)).setCycles 5

/-- Returning from an interrupt (R914, R1125): pc is popped and IME is set at once. -/
def returnFromInterrupt (s : State) : State :=
  let t := (popState s).setPc (popValue s)
  { t with cpu := { t.cpu with ime := true, eiDelay := false } }

/-! ## The unknown-opcode fallback (R1030, R1101) -/

/-- `Fallback(start, code)` (R1030): the opcode is logged with the address of its first byte, the
`stop` policy sets `faulted`, and 0 machine cycles are returned. -/
def fallback (code : Word) (s : State) : State :=
  let t := { s with faultLog := s.faultLog ++ [FaultRecord.mk s.start code] }
  match s.cfg.unknownPolicy with
  | .continues => t.setCycles 0
  | .stops => { t with cpu := { t.cpu with faulted := true } }.setCycles 0

end Sys2Proof.Machine
end

