-- ==== Sys2Proof/Machine/Render.lean ====
section
/-!
DEFINITION. The scanline renderer (R1180-R1203): tile and sprite pixels read through the bus, the
palettes, and one row of the framebuffer drawn at a time.
-/

namespace Sys2Proof.Machine

/-- The tile data address of a background or window tile index (R1182): unsigned from 0x8000, or
signed around 0x9000, by LCDC bit 4. -/
def tileAddr (s : State) (idx : Byte) : Word :=
  if (s.io 0x40).getLsbD 4 then 0x8000#16 + 16#16 * zext16 idx
  else 0x9000#16 + 16#16 * sext16 idx

/-- The colour index from the two bitplane bytes of a tile row, at bit `b` (R1182). -/
def planeColour (lo hi : Byte) (b : Nat) : BitVec 2 :=
  BitVec.ofBool (hi.getLsbD b) ++ BitVec.ofBool (lo.getLsbD b)

/-- `TilePixel(idx, row, col)` (R1182): bit 7 is the leftmost pixel. -/
def tilePixel (s : State) (idx : Byte) (row col : Nat) : BitVec 2 :=
  let a := tileAddr s idx + BitVec.ofNat 16 (2 * row)
  planeColour (memRead s a) (memRead s (a + 1#16)) (7 - col)

/-- The tile index at column `px`, row `py` of the 32 x 32 map at `map` (R1181). -/
def mapIndex (s : State) (map : Nat) (px py : Nat) : Byte :=
  memRead s (BitVec.ofNat 16 (map + (py / 8) * 32 + px / 8))

/-- `BgPixel(x, y)` (R1181): scrolled by SCX and SCY modulo 256. -/
def bgPixel (s : State) (x y : Nat) : BitVec 2 :=
  let px := (x + (s.io 0x43).toNat) % 256
  let py := (y + (s.io 0x42).toNat) % 256
  let map := if (s.io 0x40).getLsbD 3 then 0x9C00 else 0x9800
  tilePixel s (mapIndex s map px py) (py % 8) (px % 8)

/-- `WindowPixel(x, y)` (R1191): biased by 7, no scroll. -/
def windowPixel (s : State) (x y : Nat) : BitVec 2 :=
  let wx := x + 7 - (s.io 0x4B).toNat
  let wy := y - (s.io 0x4A).toNat
  let map := if (s.io 0x40).getLsbD 6 then 0x9C00 else 0x9800
  tilePixel s (mapIndex s map wx wy) (wy % 8) (wx % 8)

/-- Whether the window covers pixel (x, y) (R1180, R1191): computed as integers. -/
def inWindow (s : State) (x y : Nat) : Bool :=
  (s.io 0x40).getLsbD 5 && decide ((s.io 0x4A).toNat ≤ y) && decide ((s.io 0x4B).toNat ≤ x + 7)

/-- The background or window colour index of pixel (x, y), `bgc[x]` of R1180. -/
def bgColour (s : State) (x y : Nat) : BitVec 2 :=
  if s.cfg.lcdc0Blanks && !(s.io 0x40).getLsbD 0 then 0#2
  else if inWindow s x y then windowPixel s x y
  else bgPixel s x y

/-- `P_SHADE[n]` (R1183). -/
def shadeOf (c : Shades) (n : Byte) : BitVec 32 :=
  match n.toNat with
  | 0 => c.white
  | 1 => c.light
  | 2 => c.dark
  | _ => c.black

/-- The pixel that palette byte `pal` gives colour index `c` (R147, R1183):
`P_SHADE[(pal >> 2c) & 3]`. -/
def palettePixel (s : State) (pal : Byte) (c : BitVec 2) : BitVec 32 :=
  shadeOf s.cfg.shade ((pal >>> (2 * c.toNat)) &&& 0x03#8)

/-- `bgc[0..159]` (R1180): the line buffer of background and window colour indices. -/
def bgLine (s : State) (y : Nat) : List (BitVec 2) :=
  (List.range 160).map fun x => bgColour s x y

/-- The height of sprites, 8 or 16, by LCDC bit 2 (R1201). -/
def objHeight (s : State) : Nat := if (s.io 0x40).getLsbD 2 then 16 else 8

/-- Byte `j` of OAM entry `i` (R132): 0 y, 1 x, 2 tile, 3 attribute. -/
def oamByte (s : State) (i j : Nat) : Byte := memRead s (BitVec.ofNat 16 (0xFE00 + 4 * i + j))

/-- Whether entry `i`'s rows cover line `y` (R1200): `top <= y < top + h` with `top = sy - 16`. -/
def objCovers (s : State) (y i : Nat) : Bool :=
  let top : Int := (oamByte s i 0).toNat - 16
  decide (top ≤ y ∧ (y : Int) < top + objHeight s)

/-- The first ten entries that cover line `y`, in OAM order (R1200). -/
def objSelect (s : State) (y : Nat) : List Nat :=
  ((List.range 40).filter (objCovers s y)).take 10

/-- `order(sel)` (R1202). -/
def objOrder (s : State) (sel : List Nat) : List Nat :=
  match s.cfg.objOverlap with
  | .laterWins => sel
  | .firstWins => sel.reverse

/-- `ObjVisible(at, X)` (R1203), given the attribute byte and `bgc[X]`. -/
def objVisible (s : State) (attr : Byte) (bgc : BitVec 2) : Bool :=
  !s.cfg.objBgPriority || !attr.getLsbD 7 || decide (bgc = 0#2)

/-- The two bitplane bytes of entry `i` on line `y` (R1200, R1201): Y flip over the whole height,
and an even tile number in 8 x 16 mode. -/
def objRow (s : State) (y i : Nat) : Byte × Byte :=
  let row0 := y + 16 - (oamByte s i 0).toNat
  let row := if (oamByte s i 3).getLsbD 6 then objHeight s - 1 - row0 else row0
  let tile := if objHeight s = 16 then oamByte s i 2 &&& 0xFE#8 else oamByte s i 2
  let a := BitVec.ofNat 16 (0x8000 + 16 * tile.toNat + 2 * row)
  (memRead s a, memRead s (a + 1#16))

/-- Column `c` of entry `i` drawn onto the row `line` (R1200): colour index 0 is transparent, and
columns off the screen are dropped. -/
def objPixel (s : State) (y i : Nat) (bgc : List (BitVec 2)) (line : List (BitVec 32)) (c : Nat) :
    List (BitVec 32) :=
  let attr := oamByte s i 3
  let pal := if attr.getLsbD 4 then s.io 0x49 else s.io 0x48
  let ci := planeColour (objRow s y i).1 (objRow s y i).2 (if attr.getLsbD 5 then c else 7 - c)
  let x : Int := (oamByte s i 1).toNat - 8 + c
  if ci ≠ 0#2 ∧ 0 ≤ x ∧ x < 160 ∧ objVisible s attr (bgc.getD x.toNat 0#2) = true then
    line.set x.toNat (palettePixel s pal ci)
  else line

/-- The eight columns of entry `i` drawn onto the row (R1200). -/
def objDraw (s : State) (y : Nat) (bgc : List (BitVec 2)) (line : List (BitVec 32)) (i : Nat) :
    List (BitVec 32) :=
  (List.range 8).foldl (objPixel s y i bgc) line

/-- The 160 pixels of row `y` (R1180): background and window, then the sprites over them when LCDC
bit 1 is set. -/
def linePixels (s : State) (y : Nat) : List (BitVec 32) :=
  let bgc := bgLine s y
  let base := bgc.map (palettePixel s (s.io 0x47))
  if (s.io 0x40).getLsbD 1 then
    (objOrder s (objSelect s y)).foldl (objDraw s y bgc) base
  else base

/-- Draws `pixels` from framebuffer index `k` on (R131). -/
def drawPixels (s : State) (k : Nat) (pixels : List (BitVec 32)) : State :=
  match pixels with
  | [] => s
  | p :: rest => drawPixels (s.setFbAt k p) (k + 1) rest

/-- `RenderLine(y)` (R1180): row `y` of the framebuffer, index `y*160 + x`, from the memory and
registers as they are now (R1158). -/
def renderLine (y : Nat) (s : State) : State := drawPixels s (y * 160) (linePixels s y)

end Sys2Proof.Machine
end

