-- ==== Sys2Proof/Machine/Ppu.lean ====
section
/-!
DEFINITION. The PPU state machine (R1150-R1162): the dot counter, the scanline, the mode, the VBlank
request and the STAT line.
-/

namespace Sys2Proof.Machine

/-- `ModeOf(ly, dot)` (R1152). -/
def modeOf (ly dot : Nat) : Mode :=
  if 144 ≤ ly then .vBlank
  else if dot < 80 then .oamSearch
  else if dot < 252 then .drawing
  else .hBlank

/-- One pass of the loop of R1150: a line boundary is crossed. -/
def crossLine (s : State) : State :=
  let ly := (s.ppu.ly + 1) % 154
  let s1 := { s with ppu := { s.ppu with dot := s.ppu.dot - 456, ly := ly } }
  let s2 := if ly < 144 then renderLine ly s1 else s1
  if ly = 144 then request 0 s2 else s2

/-- `n` line boundaries crossed in turn (R1151). -/
def crossLines (n : Nat) (s : State) : State :=
  match n with
  | 0 => s
  | k + 1 => crossLines k (crossLine s)

/-- The STAT interrupt line of R1160: four sources ORed together. -/
def statLineNow (s : State) : Bool :=
  let sel := s.io 0x41
  (sel.getLsbD 6 && decide (s.ppu.ly = (s.io 0x45).toNat)) ||
    (sel.getLsbD 3 && decide (s.ppu.mode = .hBlank)) ||
    (sel.getLsbD 4 && decide (s.ppu.mode = .vBlank)) ||
    (sel.getLsbD 5 && decide (s.ppu.mode = .oamSearch))

/-- `UpdateStatLine()` (R1160): a request on the rising edge only (R1162). -/
def updateStatLine (s : State) : State :=
  let line := statLineNow s
  let t := if line && !s.ppu.statLine then request 1 s else s
  { t with ppu := { t.ppu with statLine := line } }

/-- `mode <- ModeOf(ly, dot)` (R1150). -/
def updateMode (s : State) : State :=
  { s with ppu := { s.ppu with mode := modeOf s.ppu.ly s.ppu.dot } }

/-- `PpuTick(d)` (R1150): nothing while LCDC bit 7 is 0 (R1155). The loop `while dot >= 456` runs
`(dot + d) / 456` times. -/
def ppuTick (d : Nat) (s : State) : State :=
  if (s.io 0x40).getLsbD 7 then
    let s1 := { s with ppu := { s.ppu with dot := s.ppu.dot + d } }
    updateStatLine (updateMode (crossLines ((s.ppu.dot + d) / 456) s1))
  else s

end Sys2Proof.Machine
end

