-- ==== Sys2Proof/Machine/HostOps.lean ====
section
/-!
DEFINITION. What the host can do between system steps (R13, R1280): construct the block with given
parameters (R1300), load a cartridge (R250-R253), read and write the bus, tick the PPU, request an
interrupt, read the framebuffer and the fault log; and the placing of bytes where the next fetch
reads them.
-/

namespace Sys2Proof.Machine

/-! ## Construction (R1300) -/

/-- Stores each listed cell in turn, keeping the canonical form. -/
def storeAll (sp : Space) (m : List Host.Cell) (cells : List Host.Cell) : List Host.Cell :=
  cells.foldl (fun acc c => Cells.set (unlisted sp) acc c.1 c.2) m

/-- `P_IO_INIT` as cells of internal storage (R140). -/
def ioCells (c : Config) : List Host.Cell :=
  c.ioInit.toList.zipIdx.map fun p => (0xFF00 + p.2, p.1)

/-- Whether `P_RAM_INIT` gives the byte at CPU address `k`: VRAM, WRAM, OAM and HRAM (R120). -/
def isRam (k : Nat) : Bool := isInternal k && !decide (0xFF00 ≤ k ∧ k ≤ 0xFF7F)

/-- The CPU after reset with a boot ROM (R161, R162): every register 0. -/
def Cpu.resetBoot : Cpu :=
  { Cpu.reset with
    a := 0x00#8, f := 0x00#8, b := 0x00#8, c := 0x00#8, d := 0x00#8, e := 0x00#8, h := 0x00#8
    l := 0x00#8, sp := 0x0000#16, pc := 0x0000#16 }

/-- Reset with the parameters `c` (R1300-R1302). -/
def resetWith (c : Config) : State where
  cfg := c
  cpu := if c.bootRom.isSome then Cpu.resetBoot else Cpu.reset
  bus :=
    { Bus.reset with
      mem := storeAll .internal (storeAll .internal [] (ioCells c)) (c.ramInit.filter fun p => isRam p.1)
      bootEnabled := c.bootRom.isSome }
  ppu := Ppu.reset
  faultLog := []
  mcycles := 0
  start := 0x0000#16

/-! ## Loading a cartridge (R250-R253) -/

/-- N for an image of `size` bytes (R251): `max(0, ceil((size - 16384) / 16384))`. -/
def romBankCount (size : Nat) : Nat := (size - 16384 + 16383) / 16384

/-- `P_RAM_BANK_TABLE` of a header byte (R252): 0 for a value it does not list. -/
def ramBanksOf (c : Config) (header : Byte) : Nat :=
  match c.ramBankTable.find? fun p => p.1 = header with
  | some p => p.2
  | none => 0

/-- M for an image (R252): the header byte is at 0x0149. -/
def ramBankCount (c : Config) (image : List Byte) : Nat :=
  if 0x0149 < image.length then ramBanksOf c (image.getD 0x0149 0x00#8) else 0

/-- The image as cells of cartridge ROM (R251): bytes equal to 0xFF need no cell. -/
def romCells (image : List Byte) : List Host.Cell :=
  (image.zipIdx.map fun p => (p.2, p.1)).filter fun c => decide (c.2 ≠ 0xFF#8)

/-- The external RAM of `banks` banks as `P_RAM_INIT` leaves it (R252). -/
def extCells (c : Config) (banks : Nat) : List Host.Cell :=
  storeAll .cartRam [] (c.extRamInit.filter fun p => decide (p.1 < 8192 * banks))

/-- `load_rom` (R250-R253, R1280) of the image bytes, or of none when the image cannot be read: it
replaces the ROM and the external RAM and nothing else. -/
def loadRom (image : Option (List Byte)) (s : State) : Result :=
  match image with
  | none => .fault .ioError
  | some bytes =>
    .next { s with bus := { s.bus with
      rom := romCells bytes
      nRom := romBankCount bytes.length
      nRam := ramBankCount s.cfg bytes
      ext := extCells s.cfg (ramBankCount s.cfg bytes) } }

/-! ## The other host operations (R1280) -/

/-- `read(a)` (R1280): exactly a CPU read. -/
def hostRead (a : Word) (s : State) : Byte := memRead s a

/-- `write(a, v)` (R1280): exactly a CPU write. -/
def hostWrite (a : Word) (v : Byte) (s : State) : State := memWrite a v s

/-- `tick(d)` (R1280): the PPU tick alone. -/
def hostTick (d : Nat) (s : State) : State := ppuTick d s

/-- The interrupt sources outside the block (R1106). -/
inductive HostIrq where
  | timer
  | serial
  | joypad
deriving DecidableEq, Repr

/-- The IF bit of a host source (R1106). -/
def hostIrqBit (k : HostIrq) : Nat :=
  match k with
  | .timer => 2
  | .serial => 3
  | .joypad => 4

/-- `RequestInterrupt(k)` (R1280). -/
def requestInterrupt (k : HostIrq) (s : State) : State := request (hostIrqBit k) s

/-- `get_framebuffer()` (R1280): the 160 x 144 pixels, index `y*160 + x` (R131). -/
def getFramebuffer (s : State) : List (BitVec 32) := (List.range 23040).map s.fbAt

/-- Pixel (x, y) of the framebuffer (R131). -/
def pixelAt (s : State) (x y : Nat) : BitVec 32 := s.fbAt (y * 160 + x)

/-- `fault_log()` (R1280). -/
def hostFaultLog (s : State) : List FaultRecord := s.faultLog

/-! ## Placing an instruction where the next fetch reads it -/

/-- Sets the byte that backs address `a`, ROM included; an address without storage keeps its value. -/
def pokeByte (a : Word) (v : Byte) (s : State) : State :=
  let k := a.toNat
  if k ≤ 0x3FFF then
    { s with bus := { s.bus with rom := Cells.set (unlisted .cartRom) s.bus.rom k v } }
  else if k ≤ 0x7FFF then
    { s with bus := { s.bus with
      rom := Cells.set (unlisted .cartRom) s.bus.rom (16384 * s.bus.romBank.toNat + (k - 0x4000)) v } }
  else if k ≤ 0x9FFF then s.setMemAt k v
  else if k ≤ 0xBFFF then s.setExtAt s.bus.ramBank.toNat (k - 0xA000) v
  else if k ≤ 0xDFFF then s.setMemAt k v
  else if k ≤ 0xFDFF then s.setMemAt (k - 0x2000) v
  else if k ≤ 0xFE9F then s.setMemAt k v
  else if k ≤ 0xFEFF then s
  else if k ≤ 0xFFFE then s.setMemAt k v
  else { s with bus := { s.bus with ie := v } }

/-- Places bytes from address `a` on. -/
def pokeBytes (a : Word) (bytes : List Byte) (s : State) : State :=
  match bytes with
  | [] => s
  | v :: rest => pokeBytes (a + 1#16) rest (pokeByte a v s)

/-- The three bytes at pc. -/
def fetchWindow (s : State) : List Byte :=
  [memRead s s.cpu.pc, memRead s (s.cpu.pc + 1#16), memRead s (s.cpu.pc + 2#16)]

/-- A CPU that will fetch at its next step: not waiting, not stopped, no HALT bug. -/
def readyToFetch (s : State) : State :=
  { s with cpu := { s.cpu with faulted := false, stopped := false, halted := false, haltBug := false } }

/-- Places three bytes at pc, or, where pc has no storage that shows them, at 0xC000 in work RAM
with pc there; IME is cleared if an interrupt would be taken first (log entry 4). -/
def placeInstr (bytes : List Byte) (s : State) : State :=
  let t := pokeBytes s.cpu.pc bytes (readyToFetch s)
  let u := if fetchWindow t = bytes then t
    else pokeBytes 0xC000#16 bytes ((readyToFetch s).setPc 0xC000#16)
  if (pendingIrq u).isSome then { u with cpu := { u.cpu with ime := false } } else u

end Sys2Proof.Machine
end

