-- ==== Sys2Proof/Machine/Flags.lean ====
section
/-!
DEFINITION. The flag register (R102) and every flag computation of the spec: the 8-bit adder and
subtracter of R501, INC and DEC (R540-R543), DAA (R550), the 16-bit adds (R603-R605), and the
rotates and shifts of R700.
-/

namespace Sys2Proof.Machine

/-! ## The register F (R102) -/

/-- F.Z, bit 7. -/
def flagZ (f : Byte) : Bool := f.getLsbD 7
/-- F.N, bit 6. -/
def flagN (f : Byte) : Bool := f.getLsbD 6
/-- F.H, bit 5. -/
def flagH (f : Byte) : Bool := f.getLsbD 5
/-- F.CY, bit 4. -/
def flagC (f : Byte) : Bool := f.getLsbD 4

/-- `Z<<7 | N<<6 | H<<5 | CY<<4` (R501): bits 3..0 are 0. -/
def packFlags (z n h c : Bool) : Byte :=
  BitVec.ofBool z ++ BitVec.ofBool n ++ BitVec.ofBool h ++ BitVec.ofBool c ++ 0#4

/-- `setflags(Z,N,H,CY)` (R501). -/
def State.setFlags (s : State) (z n h c : Bool) : State :=
  { s with cpu := { s.cpu with f := packFlags z n h c } }

/-- `x[F] <- v`, which stores `v & 0xF0` (R102). -/
def State.writeF (s : State) (v : Byte) : State :=
  { s with cpu := { s.cpu with f := v &&& 0xF0#8 } }

/-- F.Z of the state. -/
def State.fZ (s : State) : Bool := flagZ s.cpu.f
/-- F.N of the state. -/
def State.fN (s : State) : Bool := flagN s.cpu.f
/-- F.H of the state. -/
def State.fH (s : State) : Bool := flagH s.cpu.f
/-- F.CY of the state. -/
def State.fCY (s : State) : Bool := flagC s.cpu.f

/-! ## 8-bit arithmetic and logic -/

/-- The result and the four flags of an 8-bit operation. -/
structure AluOut where
  r : Byte
  z : Bool
  n : Bool
  h : Bool
  c : Bool
deriving DecidableEq, Repr

/-- `add8` of R501: a 9-bit sum, with the carry out of bit 3 as H and out of bit 7 as CY. -/
def add8 (a b : Byte) (cin : Bool) : AluOut :=
  let sum : BitVec 9 := a.zeroExtend 9 + b.zeroExtend 9 + (BitVec.ofBool cin).zeroExtend 9
  let r : Byte := sum.extractLsb' 0 8
  { r := r
    z := decide (r = 0x00#8)
    n := false
    h := decide (0x0F < (a &&& 0x0F#8).toNat + (b &&& 0x0F#8).toNat + cin.toNat)
    c := sum.getLsbD 8 }

/-- `sub8` of R501: H and CY are the borrows of the low nibble and of the byte. -/
def sub8 (a b : Byte) (cin : Bool) : AluOut :=
  let r : Byte := a - b - (BitVec.ofBool cin).zeroExtend 8
  { r := r
    z := decide (r = 0x00#8)
    n := true
    h := decide ((a &&& 0x0F#8).toNat < (b &&& 0x0F#8).toNat + cin.toNat)
    c := decide (a.toNat < b.toNat + cin.toNat) }

/-- A logical result (R522-R530): Z from the result, N and CY clear, H as given. -/
def logic8 (r : Byte) (h : Bool) : AluOut :=
  { r := r, z := decide (r = 0x00#8), n := false, h := h, c := false }

/-- `Alu(y)` on A, the operand and F.CY (R510-R533). -/
def aluOut (o : AluOp) (a b : Byte) (cy : Bool) : AluOut :=
  match o with
  | .add => add8 a b false
  | .adc => add8 a b cy
  | .sub => sub8 a b false
  | .sbc => sub8 a b cy
  | .and => logic8 (a &&& b) true
  | .xor => logic8 (a ^^^ b) false
  | .or => logic8 (a ||| b) false
  | .cp => sub8 a b false

/-- Whether the operation writes its result to A; CP does not (R531-R533). -/
def aluWritesA (o : AluOp) : Bool :=
  match o with
  | .cp => false
  | .add | .adc | .sub | .sbc | .and | .xor | .or => true

/-- INC of a byte (R540, R541): CY is kept. -/
def incOut (o : Byte) (cy : Bool) : AluOut :=
  { r := o + 1#8
    z := decide (o + 1#8 = 0x00#8)
    n := false
    h := decide (o &&& 0x0F#8 = 0x0F#8)
    c := cy }

/-- DEC of a byte (R542, R543): CY is kept. -/
def decOut (o : Byte) (cy : Bool) : AluOut :=
  { r := o - 1#8
    z := decide (o - 1#8 = 0x00#8)
    n := true
    h := decide (o &&& 0x0F#8 = 0x00#8)
    c := cy }

/-- DAA on A with the flags N, H and CY (R550); N is kept, H is cleared. -/
def daaOut (a : Byte) (n h cy : Bool) : AluOut :=
  if n then
    let a1 := if cy then a - 0x60#8 else a
    let a2 := if h then a1 - 0x06#8 else a1
    { r := a2, z := decide (a2 = 0x00#8), n := n, h := false, c := cy }
  else
    let high := cy || decide (0x99#8 < a)
    let a1 := if high then a + 0x60#8 else a
    let a2 := if h || decide (0x09#8 < a1 &&& 0x0F#8) then a1 + 0x06#8 else a1
    { r := a2, z := decide (a2 = 0x00#8), n := n, h := false, c := high }

/-! ## 16-bit arithmetic -/

/-- The result and the H and CY flags of a 16-bit addition. -/
structure AddOut where
  r : Word
  h : Bool
  c : Bool
deriving DecidableEq, Repr

/-- ADD HL,rr (R603): carries out of bits 11 and 15 of the 17-bit sum. -/
def add16 (a b : Word) : AddOut :=
  let sum : BitVec 17 := a.zeroExtend 17 + b.zeroExtend 17
  { r := sum.extractLsb' 0 16
    h := decide (0x0FFF < (a &&& 0x0FFF#16).toNat + (b &&& 0x0FFF#16).toNat)
    c := sum.getLsbD 16 }

/-- SP plus a signed byte (R604, R605): the flags come from the unsigned add of the low bytes. -/
def addSpOut (sp : Word) (e : Byte) : AddOut :=
  { r := sp + sext16 e
    h := decide (0x0F < (sp &&& 0x000F#16).toNat + (e &&& 0x0F#8).toNat)
    c := decide (0xFF < (sp &&& 0x00FF#16).toNat + e.toNat) }

/-! ## Rotates, shifts and SWAP (R700) -/

/-- The table of R700: the result and the bit shifted out. -/
def rotOut (o : RotOp) (v : Byte) (cy : Bool) : Byte × Bool :=
  match o with
  | .rlc => (v.extractLsb' 0 7 ++ v.extractLsb' 7 1, v.getLsbD 7)
  | .rrc => (v.extractLsb' 0 1 ++ v.extractLsb' 1 7, v.getLsbD 0)
  | .rl => (v.extractLsb' 0 7 ++ BitVec.ofBool cy, v.getLsbD 7)
  | .rr => (BitVec.ofBool cy ++ v.extractLsb' 1 7, v.getLsbD 0)
  | .sla => (v.extractLsb' 0 7 ++ 0#1, v.getLsbD 7)
  | .sra => (v.extractLsb' 7 1 ++ v.extractLsb' 1 7, v.getLsbD 0)
  | .swap => (v.extractLsb' 0 4 ++ v.extractLsb' 4 4, false)
  | .srl => (0#1 ++ v.extractLsb' 1 7, v.getLsbD 0)

end Sys2Proof.Machine
end

