-- ==== Sys2Proof/Machine/Alu16.lean ====
section
/-!
DEFINITION. The meanings of 16-bit arithmetic (R600-R605): the operations the rows share,
then one definition per row of the opcode table. An instruction runs with pc already past all of its
bytes (R22); its count of machine cycles is the row's (R331).
-/

namespace Sys2Proof.Machine

/-- `INC rr` and `DEC rr` (R601, R602): `delta` modulo 2^16, no flag. -/
def stepPair (rr : Reg16) (delta : Word) (s : State) : Result :=
  retire 2 (s.setReg16 rr (s.reg16 rr + delta))

/-- `ADD HL,rr` (R603): Z is kept. -/
def addHlPair (rr : Reg16) (s : State) : Result :=
  let out := add16 s.hl (s.reg16 rr)
  retire 2 ((s.setReg16 .hl out.r).setFlags s.fZ false out.h out.c)

/-- `ADD SP,e8` (R604): Z and N are cleared. -/
def addSp (e : Byte) (s : State) : Result :=
  let out := addSpOut s.cpu.sp e
  retire 4 ((s.setSp out.r).setFlags false false out.h out.c)

/-- `LD HL,SP+e8` (R605): Z and N are cleared, SP is kept. -/
def hlFromSp (e : Byte) (s : State) : Result :=
  let out := addSpOut s.cpu.sp e
  retire 3 ((s.setReg16 .hl out.r).setFlags false false out.h out.c)

/-! ## One meaning per row -/

/-- `INC BC` (R601). -/
def execIncBc (s : State) : Result := stepPair .bc 0x0001#16 s

/-- `ADD HL,BC` (R603). -/
def execAddHlBc (s : State) : Result := addHlPair .bc s

/-- `DEC BC` (R602). -/
def execDecBc (s : State) : Result := stepPair .bc 0xFFFF#16 s

/-- `INC DE` (R601). -/
def execIncDe (s : State) : Result := stepPair .de 0x0001#16 s

/-- `ADD HL,DE` (R603). -/
def execAddHlDe (s : State) : Result := addHlPair .de s

/-- `DEC DE` (R602). -/
def execDecDe (s : State) : Result := stepPair .de 0xFFFF#16 s

/-- `INC HL` (R601). -/
def execIncHl (s : State) : Result := stepPair .hl 0x0001#16 s

/-- `ADD HL,HL` (R603). -/
def execAddHlHl (s : State) : Result := addHlPair .hl s

/-- `DEC HL` (R602). -/
def execDecHl (s : State) : Result := stepPair .hl 0xFFFF#16 s

/-- `INC SP` (R601). -/
def execIncSp (s : State) : Result := stepPair .sp 0x0001#16 s

/-- `ADD HL,SP` (R603). -/
def execAddHlSp (s : State) : Result := addHlPair .sp s

/-- `DEC SP` (R602). -/
def execDecSp (s : State) : Result := stepPair .sp 0xFFFF#16 s

/-- `ADD SP,e8` (R604). -/
def execAddSpE8 (e8 : Byte) (s : State) : Result := addSp e8 s

/-- `LD HL,SP+e8` (R605). -/
def execLdHlSpE8 (e8 : Byte) (s : State) : Result := hlFromSp e8 s

end Sys2Proof.Machine
end

