-- ==== Sys2Proof/Machine/Alu8.lean ====
section
/-!
DEFINITION. The meanings of 8-bit arithmetic and logic (R500-R553): the operations the rows share,
then one definition per row of the opcode table. An instruction runs with pc already past all of its
bytes (R22); its count of machine cycles is the row's (R331).
-/

namespace Sys2Proof.Machine

/-- `Alu(y) A,b` (R510-R533): the flags are set, and A unless the operation is CP. -/
def aluA (o : AluOp) (b : Byte) (cycles : Nat) (s : State) : Result :=
  let out := aluOut o s.cpu.a b s.fCY
  let t := if aluWritesA o then s.setReg8 .a out.r else s
  retire cycles (t.setFlags out.z out.n out.h out.c)

/-- The register form (R502). -/
def aluReg (o : AluOp) (r : Reg8) (s : State) : Result := aluA o (s.reg8 r) 1 s

/-- The memory form (R502). -/
def aluMem (o : AluOp) (s : State) : Result := aluA o (memRead s s.hl) 2 s

/-- The immediate form (R502). -/
def aluImm (o : AluOp) (n : Byte) (s : State) : Result := aluA o n 2 s

/-- `INC r` (R540). -/
def incReg (r : Reg8) (s : State) : Result :=
  let out := incOut (s.reg8 r) s.fCY
  retire 1 ((s.setReg8 r out.r).setFlags out.z out.n out.h out.c)

/-- `INC (HL)` (R541). -/
def incMem (s : State) : Result :=
  let out := incOut (memRead s s.hl) s.fCY
  retire 3 ((memWrite s.hl out.r s).setFlags out.z out.n out.h out.c)

/-- `DEC r` (R542). -/
def decReg (r : Reg8) (s : State) : Result :=
  let out := decOut (s.reg8 r) s.fCY
  retire 1 ((s.setReg8 r out.r).setFlags out.z out.n out.h out.c)

/-- `DEC (HL)` (R543). -/
def decMem (s : State) : Result :=
  let out := decOut (memRead s s.hl) s.fCY
  retire 3 ((memWrite s.hl out.r s).setFlags out.z out.n out.h out.c)

/-- `DAA` (R550). -/
def daaA (s : State) : Result :=
  let out := daaOut s.cpu.a s.fN s.fH s.fCY
  retire 1 ((s.setReg8 .a out.r).setFlags out.z out.n out.h out.c)

/-- `CPL` (R551): Z and CY are kept. -/
def complementA (s : State) : Result :=
  retire 1 ((s.setReg8 .a (s.cpu.a ^^^ 0xFF#8)).setFlags s.fZ true true s.fCY)

/-- `SCF` (R552): Z is kept. -/
def setCarry (s : State) : Result := retire 1 (s.setFlags s.fZ false false true)

/-- `CCF` (R553): Z is kept. -/
def complementCarry (s : State) : Result := retire 1 (s.setFlags s.fZ false false (!s.fCY))

/-! ## One meaning per row -/

/-- `INC B` (R540). -/
def execIncB (s : State) : Result := incReg .b s

/-- `DEC B` (R542). -/
def execDecB (s : State) : Result := decReg .b s

/-- `INC C` (R540). -/
def execIncC (s : State) : Result := incReg .c s

/-- `DEC C` (R542). -/
def execDecC (s : State) : Result := decReg .c s

/-- `INC D` (R540). -/
def execIncD (s : State) : Result := incReg .d s

/-- `DEC D` (R542). -/
def execDecD (s : State) : Result := decReg .d s

/-- `INC E` (R540). -/
def execIncE (s : State) : Result := incReg .e s

/-- `DEC E` (R542). -/
def execDecE (s : State) : Result := decReg .e s

/-- `INC H` (R540). -/
def execIncH (s : State) : Result := incReg .h s

/-- `DEC H` (R542). -/
def execDecH (s : State) : Result := decReg .h s

/-- `DAA` (R550). -/
def execDaa (s : State) : Result := daaA s

/-- `INC L` (R540). -/
def execIncL (s : State) : Result := incReg .l s

/-- `DEC L` (R542). -/
def execDecL (s : State) : Result := decReg .l s

/-- `CPL` (R551). -/
def execCpl (s : State) : Result := complementA s

/-- `INC (HL)` (R541). -/
def execIncAtHl (s : State) : Result := incMem s

/-- `DEC (HL)` (R543). -/
def execDecAtHl (s : State) : Result := decMem s

/-- `SCF` (R552). -/
def execScf (s : State) : Result := setCarry s

/-- `INC A` (R540). -/
def execIncA (s : State) : Result := incReg .a s

/-- `DEC A` (R542). -/
def execDecA (s : State) : Result := decReg .a s

/-- `CCF` (R553). -/
def execCcf (s : State) : Result := complementCarry s

/-- `ADD A,B` (R510). -/
def execAddAB (s : State) : Result := aluReg .add .b s

/-- `ADD A,C` (R510). -/
def execAddAC (s : State) : Result := aluReg .add .c s

/-- `ADD A,D` (R510). -/
def execAddAD (s : State) : Result := aluReg .add .d s

/-- `ADD A,E` (R510). -/
def execAddAE (s : State) : Result := aluReg .add .e s

/-- `ADD A,H` (R510). -/
def execAddAH (s : State) : Result := aluReg .add .h s

/-- `ADD A,L` (R510). -/
def execAddAL (s : State) : Result := aluReg .add .l s

/-- `ADD A,(HL)` (R511). -/
def execAddAAtHl (s : State) : Result := aluMem .add s

/-- `ADD A,A` (R510). -/
def execAddAA (s : State) : Result := aluReg .add .a s

/-- `ADC A,B` (R513). -/
def execAdcAB (s : State) : Result := aluReg .adc .b s

/-- `ADC A,C` (R513). -/
def execAdcAC (s : State) : Result := aluReg .adc .c s

/-- `ADC A,D` (R513). -/
def execAdcAD (s : State) : Result := aluReg .adc .d s

/-- `ADC A,E` (R513). -/
def execAdcAE (s : State) : Result := aluReg .adc .e s

/-- `ADC A,H` (R513). -/
def execAdcAH (s : State) : Result := aluReg .adc .h s

/-- `ADC A,L` (R513). -/
def execAdcAL (s : State) : Result := aluReg .adc .l s

/-- `ADC A,(HL)` (R514). -/
def execAdcAAtHl (s : State) : Result := aluMem .adc s

/-- `ADC A,A` (R513). -/
def execAdcAA (s : State) : Result := aluReg .adc .a s

/-- `SUB B` (R516). -/
def execSubB (s : State) : Result := aluReg .sub .b s

/-- `SUB C` (R516). -/
def execSubC (s : State) : Result := aluReg .sub .c s

/-- `SUB D` (R516). -/
def execSubD (s : State) : Result := aluReg .sub .d s

/-- `SUB E` (R516). -/
def execSubE (s : State) : Result := aluReg .sub .e s

/-- `SUB H` (R516). -/
def execSubH (s : State) : Result := aluReg .sub .h s

/-- `SUB L` (R516). -/
def execSubL (s : State) : Result := aluReg .sub .l s

/-- `SUB (HL)` (R517). -/
def execSubAtHl (s : State) : Result := aluMem .sub s

/-- `SUB A` (R516). -/
def execSubA (s : State) : Result := aluReg .sub .a s

/-- `SBC A,B` (R519). -/
def execSbcAB (s : State) : Result := aluReg .sbc .b s

/-- `SBC A,C` (R519). -/
def execSbcAC (s : State) : Result := aluReg .sbc .c s

/-- `SBC A,D` (R519). -/
def execSbcAD (s : State) : Result := aluReg .sbc .d s

/-- `SBC A,E` (R519). -/
def execSbcAE (s : State) : Result := aluReg .sbc .e s

/-- `SBC A,H` (R519). -/
def execSbcAH (s : State) : Result := aluReg .sbc .h s

/-- `SBC A,L` (R519). -/
def execSbcAL (s : State) : Result := aluReg .sbc .l s

/-- `SBC A,(HL)` (R520). -/
def execSbcAAtHl (s : State) : Result := aluMem .sbc s

/-- `SBC A,A` (R519). -/
def execSbcAA (s : State) : Result := aluReg .sbc .a s

/-- `AND B` (R522). -/
def execAndB (s : State) : Result := aluReg .and .b s

/-- `AND C` (R522). -/
def execAndC (s : State) : Result := aluReg .and .c s

/-- `AND D` (R522). -/
def execAndD (s : State) : Result := aluReg .and .d s

/-- `AND E` (R522). -/
def execAndE (s : State) : Result := aluReg .and .e s

/-- `AND H` (R522). -/
def execAndH (s : State) : Result := aluReg .and .h s

/-- `AND L` (R522). -/
def execAndL (s : State) : Result := aluReg .and .l s

/-- `AND (HL)` (R523). -/
def execAndAtHl (s : State) : Result := aluMem .and s

/-- `AND A` (R522). -/
def execAndA (s : State) : Result := aluReg .and .a s

/-- `XOR B` (R525). -/
def execXorB (s : State) : Result := aluReg .xor .b s

/-- `XOR C` (R525). -/
def execXorC (s : State) : Result := aluReg .xor .c s

/-- `XOR D` (R525). -/
def execXorD (s : State) : Result := aluReg .xor .d s

/-- `XOR E` (R525). -/
def execXorE (s : State) : Result := aluReg .xor .e s

/-- `XOR H` (R525). -/
def execXorH (s : State) : Result := aluReg .xor .h s

/-- `XOR L` (R525). -/
def execXorL (s : State) : Result := aluReg .xor .l s

/-- `XOR (HL)` (R526). -/
def execXorAtHl (s : State) : Result := aluMem .xor s

/-- `XOR A` (R525). -/
def execXorA (s : State) : Result := aluReg .xor .a s

/-- `OR B` (R528). -/
def execOrB (s : State) : Result := aluReg .or .b s

/-- `OR C` (R528). -/
def execOrC (s : State) : Result := aluReg .or .c s

/-- `OR D` (R528). -/
def execOrD (s : State) : Result := aluReg .or .d s

/-- `OR E` (R528). -/
def execOrE (s : State) : Result := aluReg .or .e s

/-- `OR H` (R528). -/
def execOrH (s : State) : Result := aluReg .or .h s

/-- `OR L` (R528). -/
def execOrL (s : State) : Result := aluReg .or .l s

/-- `OR (HL)` (R529). -/
def execOrAtHl (s : State) : Result := aluMem .or s

/-- `OR A` (R528). -/
def execOrA (s : State) : Result := aluReg .or .a s

/-- `CP B` (R531). -/
def execCpB (s : State) : Result := aluReg .cp .b s

/-- `CP C` (R531). -/
def execCpC (s : State) : Result := aluReg .cp .c s

/-- `CP D` (R531). -/
def execCpD (s : State) : Result := aluReg .cp .d s

/-- `CP E` (R531). -/
def execCpE (s : State) : Result := aluReg .cp .e s

/-- `CP H` (R531). -/
def execCpH (s : State) : Result := aluReg .cp .h s

/-- `CP L` (R531). -/
def execCpL (s : State) : Result := aluReg .cp .l s

/-- `CP (HL)` (R532). -/
def execCpAtHl (s : State) : Result := aluMem .cp s

/-- `CP A` (R531). -/
def execCpA (s : State) : Result := aluReg .cp .a s

/-- `ADD A,d8` (R512). -/
def execAddAD8 (d8 : Byte) (s : State) : Result := aluImm .add d8 s

/-- `ADC A,d8` (R515). -/
def execAdcAD8 (d8 : Byte) (s : State) : Result := aluImm .adc d8 s

/-- `SUB d8` (R518). -/
def execSubD8 (d8 : Byte) (s : State) : Result := aluImm .sub d8 s

/-- `SBC A,d8` (R521). -/
def execSbcAD8 (d8 : Byte) (s : State) : Result := aluImm .sbc d8 s

/-- `AND d8` (R524). -/
def execAndD8 (d8 : Byte) (s : State) : Result := aluImm .and d8 s

/-- `XOR d8` (R527). -/
def execXorD8 (d8 : Byte) (s : State) : Result := aluImm .xor d8 s

/-- `OR d8` (R530). -/
def execOrD8 (d8 : Byte) (s : State) : Result := aluImm .or d8 s

/-- `CP d8` (R533). -/
def execCpD8 (d8 : Byte) (s : State) : Result := aluImm .cp d8 s

end Sys2Proof.Machine
end

