-- ==== Sys2Proof/Machine/Bit.lean ====
section
/-!
DEFINITION. The meanings of single-bit test, reset and set (R800-R806): the operations the rows share,
then one definition per row of the opcode table. An instruction runs with pc already past all of its
bytes (R22); its count of machine cycles is the row's (R331).
-/

namespace Sys2Proof.Machine

/-- `1 << b` (R803-R806). -/
def bitMask (k : Num3) : Byte := 1#8 <<< k.toNat

/-- `BIT b,r` (R801): CY is kept. -/
def testBitReg (k : Num3) (r : Reg8) (s : State) : Result :=
  retire 2 (s.setFlags (!(s.reg8 r).getLsbD k.toNat) false true s.fCY)

/-- `BIT b,(HL)` (R802): one read, no write. -/
def testBitMem (k : Num3) (s : State) : Result :=
  retire 3 (s.setFlags (!(memRead s s.hl).getLsbD k.toNat) false true s.fCY)

/-- `RES b,r` (R803). -/
def resetBitReg (k : Num3) (r : Reg8) (s : State) : Result :=
  retire 2 (s.setReg8 r (s.reg8 r &&& ~~~(bitMask k)))

/-- `RES b,(HL)` (R804): one read, then one write. -/
def resetBitMem (k : Num3) (s : State) : Result :=
  retire 4 (memWrite s.hl (memRead s s.hl &&& ~~~(bitMask k)) s)

/-- `SET b,r` (R805). -/
def setBitReg (k : Num3) (r : Reg8) (s : State) : Result :=
  retire 2 (s.setReg8 r (s.reg8 r ||| bitMask k))

/-- `SET b,(HL)` (R806): one read, then one write. -/
def setBitMem (k : Num3) (s : State) : Result :=
  retire 4 (memWrite s.hl (memRead s s.hl ||| bitMask k) s)

/-! ## One meaning per row -/

/-- `BIT 0,B` (R801). -/
def execBit0B (s : State) : Result := testBitReg .n0 .b s

/-- `BIT 0,C` (R801). -/
def execBit0C (s : State) : Result := testBitReg .n0 .c s

/-- `BIT 0,D` (R801). -/
def execBit0D (s : State) : Result := testBitReg .n0 .d s

/-- `BIT 0,E` (R801). -/
def execBit0E (s : State) : Result := testBitReg .n0 .e s

/-- `BIT 0,H` (R801). -/
def execBit0H (s : State) : Result := testBitReg .n0 .h s

/-- `BIT 0,L` (R801). -/
def execBit0L (s : State) : Result := testBitReg .n0 .l s

/-- `BIT 0,(HL)` (R802). -/
def execBit0AtHl (s : State) : Result := testBitMem .n0 s

/-- `BIT 0,A` (R801). -/
def execBit0A (s : State) : Result := testBitReg .n0 .a s

/-- `BIT 1,B` (R801). -/
def execBit1B (s : State) : Result := testBitReg .n1 .b s

/-- `BIT 1,C` (R801). -/
def execBit1C (s : State) : Result := testBitReg .n1 .c s

/-- `BIT 1,D` (R801). -/
def execBit1D (s : State) : Result := testBitReg .n1 .d s

/-- `BIT 1,E` (R801). -/
def execBit1E (s : State) : Result := testBitReg .n1 .e s

/-- `BIT 1,H` (R801). -/
def execBit1H (s : State) : Result := testBitReg .n1 .h s

/-- `BIT 1,L` (R801). -/
def execBit1L (s : State) : Result := testBitReg .n1 .l s

/-- `BIT 1,(HL)` (R802). -/
def execBit1AtHl (s : State) : Result := testBitMem .n1 s

/-- `BIT 1,A` (R801). -/
def execBit1A (s : State) : Result := testBitReg .n1 .a s

/-- `BIT 2,B` (R801). -/
def execBit2B (s : State) : Result := testBitReg .n2 .b s

/-- `BIT 2,C` (R801). -/
def execBit2C (s : State) : Result := testBitReg .n2 .c s

/-- `BIT 2,D` (R801). -/
def execBit2D (s : State) : Result := testBitReg .n2 .d s

/-- `BIT 2,E` (R801). -/
def execBit2E (s : State) : Result := testBitReg .n2 .e s

/-- `BIT 2,H` (R801). -/
def execBit2H (s : State) : Result := testBitReg .n2 .h s

/-- `BIT 2,L` (R801). -/
def execBit2L (s : State) : Result := testBitReg .n2 .l s

/-- `BIT 2,(HL)` (R802). -/
def execBit2AtHl (s : State) : Result := testBitMem .n2 s

/-- `BIT 2,A` (R801). -/
def execBit2A (s : State) : Result := testBitReg .n2 .a s

/-- `BIT 3,B` (R801). -/
def execBit3B (s : State) : Result := testBitReg .n3 .b s

/-- `BIT 3,C` (R801). -/
def execBit3C (s : State) : Result := testBitReg .n3 .c s

/-- `BIT 3,D` (R801). -/
def execBit3D (s : State) : Result := testBitReg .n3 .d s

/-- `BIT 3,E` (R801). -/
def execBit3E (s : State) : Result := testBitReg .n3 .e s

/-- `BIT 3,H` (R801). -/
def execBit3H (s : State) : Result := testBitReg .n3 .h s

/-- `BIT 3,L` (R801). -/
def execBit3L (s : State) : Result := testBitReg .n3 .l s

/-- `BIT 3,(HL)` (R802). -/
def execBit3AtHl (s : State) : Result := testBitMem .n3 s

/-- `BIT 3,A` (R801). -/
def execBit3A (s : State) : Result := testBitReg .n3 .a s

/-- `BIT 4,B` (R801). -/
def execBit4B (s : State) : Result := testBitReg .n4 .b s

/-- `BIT 4,C` (R801). -/
def execBit4C (s : State) : Result := testBitReg .n4 .c s

/-- `BIT 4,D` (R801). -/
def execBit4D (s : State) : Result := testBitReg .n4 .d s

/-- `BIT 4,E` (R801). -/
def execBit4E (s : State) : Result := testBitReg .n4 .e s

/-- `BIT 4,H` (R801). -/
def execBit4H (s : State) : Result := testBitReg .n4 .h s

/-- `BIT 4,L` (R801). -/
def execBit4L (s : State) : Result := testBitReg .n4 .l s

/-- `BIT 4,(HL)` (R802). -/
def execBit4AtHl (s : State) : Result := testBitMem .n4 s

/-- `BIT 4,A` (R801). -/
def execBit4A (s : State) : Result := testBitReg .n4 .a s

/-- `BIT 5,B` (R801). -/
def execBit5B (s : State) : Result := testBitReg .n5 .b s

/-- `BIT 5,C` (R801). -/
def execBit5C (s : State) : Result := testBitReg .n5 .c s

/-- `BIT 5,D` (R801). -/
def execBit5D (s : State) : Result := testBitReg .n5 .d s

/-- `BIT 5,E` (R801). -/
def execBit5E (s : State) : Result := testBitReg .n5 .e s

/-- `BIT 5,H` (R801). -/
def execBit5H (s : State) : Result := testBitReg .n5 .h s

/-- `BIT 5,L` (R801). -/
def execBit5L (s : State) : Result := testBitReg .n5 .l s

/-- `BIT 5,(HL)` (R802). -/
def execBit5AtHl (s : State) : Result := testBitMem .n5 s

/-- `BIT 5,A` (R801). -/
def execBit5A (s : State) : Result := testBitReg .n5 .a s

/-- `BIT 6,B` (R801). -/
def execBit6B (s : State) : Result := testBitReg .n6 .b s

/-- `BIT 6,C` (R801). -/
def execBit6C (s : State) : Result := testBitReg .n6 .c s

/-- `BIT 6,D` (R801). -/
def execBit6D (s : State) : Result := testBitReg .n6 .d s

/-- `BIT 6,E` (R801). -/
def execBit6E (s : State) : Result := testBitReg .n6 .e s

/-- `BIT 6,H` (R801). -/
def execBit6H (s : State) : Result := testBitReg .n6 .h s

/-- `BIT 6,L` (R801). -/
def execBit6L (s : State) : Result := testBitReg .n6 .l s

/-- `BIT 6,(HL)` (R802). -/
def execBit6AtHl (s : State) : Result := testBitMem .n6 s

/-- `BIT 6,A` (R801). -/
def execBit6A (s : State) : Result := testBitReg .n6 .a s

/-- `BIT 7,B` (R801). -/
def execBit7B (s : State) : Result := testBitReg .n7 .b s

/-- `BIT 7,C` (R801). -/
def execBit7C (s : State) : Result := testBitReg .n7 .c s

/-- `BIT 7,D` (R801). -/
def execBit7D (s : State) : Result := testBitReg .n7 .d s

/-- `BIT 7,E` (R801). -/
def execBit7E (s : State) : Result := testBitReg .n7 .e s

/-- `BIT 7,H` (R801). -/
def execBit7H (s : State) : Result := testBitReg .n7 .h s

/-- `BIT 7,L` (R801). -/
def execBit7L (s : State) : Result := testBitReg .n7 .l s

/-- `BIT 7,(HL)` (R802). -/
def execBit7AtHl (s : State) : Result := testBitMem .n7 s

/-- `BIT 7,A` (R801). -/
def execBit7A (s : State) : Result := testBitReg .n7 .a s

/-- `RES 0,B` (R803). -/
def execRes0B (s : State) : Result := resetBitReg .n0 .b s

/-- `RES 0,C` (R803). -/
def execRes0C (s : State) : Result := resetBitReg .n0 .c s

/-- `RES 0,D` (R803). -/
def execRes0D (s : State) : Result := resetBitReg .n0 .d s

/-- `RES 0,E` (R803). -/
def execRes0E (s : State) : Result := resetBitReg .n0 .e s

/-- `RES 0,H` (R803). -/
def execRes0H (s : State) : Result := resetBitReg .n0 .h s

/-- `RES 0,L` (R803). -/
def execRes0L (s : State) : Result := resetBitReg .n0 .l s

/-- `RES 0,(HL)` (R804). -/
def execRes0AtHl (s : State) : Result := resetBitMem .n0 s

/-- `RES 0,A` (R803). -/
def execRes0A (s : State) : Result := resetBitReg .n0 .a s

/-- `RES 1,B` (R803). -/
def execRes1B (s : State) : Result := resetBitReg .n1 .b s

/-- `RES 1,C` (R803). -/
def execRes1C (s : State) : Result := resetBitReg .n1 .c s

/-- `RES 1,D` (R803). -/
def execRes1D (s : State) : Result := resetBitReg .n1 .d s

/-- `RES 1,E` (R803). -/
def execRes1E (s : State) : Result := resetBitReg .n1 .e s

/-- `RES 1,H` (R803). -/
def execRes1H (s : State) : Result := resetBitReg .n1 .h s

/-- `RES 1,L` (R803). -/
def execRes1L (s : State) : Result := resetBitReg .n1 .l s

/-- `RES 1,(HL)` (R804). -/
def execRes1AtHl (s : State) : Result := resetBitMem .n1 s

/-- `RES 1,A` (R803). -/
def execRes1A (s : State) : Result := resetBitReg .n1 .a s

/-- `RES 2,B` (R803). -/
def execRes2B (s : State) : Result := resetBitReg .n2 .b s

/-- `RES 2,C` (R803). -/
def execRes2C (s : State) : Result := resetBitReg .n2 .c s

/-- `RES 2,D` (R803). -/
def execRes2D (s : State) : Result := resetBitReg .n2 .d s

/-- `RES 2,E` (R803). -/
def execRes2E (s : State) : Result := resetBitReg .n2 .e s

/-- `RES 2,H` (R803). -/
def execRes2H (s : State) : Result := resetBitReg .n2 .h s

/-- `RES 2,L` (R803). -/
def execRes2L (s : State) : Result := resetBitReg .n2 .l s

/-- `RES 2,(HL)` (R804). -/
def execRes2AtHl (s : State) : Result := resetBitMem .n2 s

/-- `RES 2,A` (R803). -/
def execRes2A (s : State) : Result := resetBitReg .n2 .a s

/-- `RES 3,B` (R803). -/
def execRes3B (s : State) : Result := resetBitReg .n3 .b s

/-- `RES 3,C` (R803). -/
def execRes3C (s : State) : Result := resetBitReg .n3 .c s

/-- `RES 3,D` (R803). -/
def execRes3D (s : State) : Result := resetBitReg .n3 .d s

/-- `RES 3,E` (R803). -/
def execRes3E (s : State) : Result := resetBitReg .n3 .e s

/-- `RES 3,H` (R803). -/
def execRes3H (s : State) : Result := resetBitReg .n3 .h s

/-- `RES 3,L` (R803). -/
def execRes3L (s : State) : Result := resetBitReg .n3 .l s

/-- `RES 3,(HL)` (R804). -/
def execRes3AtHl (s : State) : Result := resetBitMem .n3 s

/-- `RES 3,A` (R803). -/
def execRes3A (s : State) : Result := resetBitReg .n3 .a s

/-- `RES 4,B` (R803). -/
def execRes4B (s : State) : Result := resetBitReg .n4 .b s

/-- `RES 4,C` (R803). -/
def execRes4C (s : State) : Result := resetBitReg .n4 .c s

/-- `RES 4,D` (R803). -/
def execRes4D (s : State) : Result := resetBitReg .n4 .d s

/-- `RES 4,E` (R803). -/
def execRes4E (s : State) : Result := resetBitReg .n4 .e s

/-- `RES 4,H` (R803). -/
def execRes4H (s : State) : Result := resetBitReg .n4 .h s

/-- `RES 4,L` (R803). -/
def execRes4L (s : State) : Result := resetBitReg .n4 .l s

/-- `RES 4,(HL)` (R804). -/
def execRes4AtHl (s : State) : Result := resetBitMem .n4 s

/-- `RES 4,A` (R803). -/
def execRes4A (s : State) : Result := resetBitReg .n4 .a s

/-- `RES 5,B` (R803). -/
def execRes5B (s : State) : Result := resetBitReg .n5 .b s

/-- `RES 5,C` (R803). -/
def execRes5C (s : State) : Result := resetBitReg .n5 .c s

/-- `RES 5,D` (R803). -/
def execRes5D (s : State) : Result := resetBitReg .n5 .d s

/-- `RES 5,E` (R803). -/
def execRes5E (s : State) : Result := resetBitReg .n5 .e s

/-- `RES 5,H` (R803). -/
def execRes5H (s : State) : Result := resetBitReg .n5 .h s

/-- `RES 5,L` (R803). -/
def execRes5L (s : State) : Result := resetBitReg .n5 .l s

/-- `RES 5,(HL)` (R804). -/
def execRes5AtHl (s : State) : Result := resetBitMem .n5 s

/-- `RES 5,A` (R803). -/
def execRes5A (s : State) : Result := resetBitReg .n5 .a s

/-- `RES 6,B` (R803). -/
def execRes6B (s : State) : Result := resetBitReg .n6 .b s

/-- `RES 6,C` (R803). -/
def execRes6C (s : State) : Result := resetBitReg .n6 .c s

/-- `RES 6,D` (R803). -/
def execRes6D (s : State) : Result := resetBitReg .n6 .d s

/-- `RES 6,E` (R803). -/
def execRes6E (s : State) : Result := resetBitReg .n6 .e s

/-- `RES 6,H` (R803). -/
def execRes6H (s : State) : Result := resetBitReg .n6 .h s

/-- `RES 6,L` (R803). -/
def execRes6L (s : State) : Result := resetBitReg .n6 .l s

/-- `RES 6,(HL)` (R804). -/
def execRes6AtHl (s : State) : Result := resetBitMem .n6 s

/-- `RES 6,A` (R803). -/
def execRes6A (s : State) : Result := resetBitReg .n6 .a s

/-- `RES 7,B` (R803). -/
def execRes7B (s : State) : Result := resetBitReg .n7 .b s

/-- `RES 7,C` (R803). -/
def execRes7C (s : State) : Result := resetBitReg .n7 .c s

/-- `RES 7,D` (R803). -/
def execRes7D (s : State) : Result := resetBitReg .n7 .d s

/-- `RES 7,E` (R803). -/
def execRes7E (s : State) : Result := resetBitReg .n7 .e s

/-- `RES 7,H` (R803). -/
def execRes7H (s : State) : Result := resetBitReg .n7 .h s

/-- `RES 7,L` (R803). -/
def execRes7L (s : State) : Result := resetBitReg .n7 .l s

/-- `RES 7,(HL)` (R804). -/
def execRes7AtHl (s : State) : Result := resetBitMem .n7 s

/-- `RES 7,A` (R803). -/
def execRes7A (s : State) : Result := resetBitReg .n7 .a s

/-- `SET 0,B` (R805). -/
def execSet0B (s : State) : Result := setBitReg .n0 .b s

/-- `SET 0,C` (R805). -/
def execSet0C (s : State) : Result := setBitReg .n0 .c s

/-- `SET 0,D` (R805). -/
def execSet0D (s : State) : Result := setBitReg .n0 .d s

/-- `SET 0,E` (R805). -/
def execSet0E (s : State) : Result := setBitReg .n0 .e s

/-- `SET 0,H` (R805). -/
def execSet0H (s : State) : Result := setBitReg .n0 .h s

/-- `SET 0,L` (R805). -/
def execSet0L (s : State) : Result := setBitReg .n0 .l s

/-- `SET 0,(HL)` (R806). -/
def execSet0AtHl (s : State) : Result := setBitMem .n0 s

/-- `SET 0,A` (R805). -/
def execSet0A (s : State) : Result := setBitReg .n0 .a s

/-- `SET 1,B` (R805). -/
def execSet1B (s : State) : Result := setBitReg .n1 .b s

/-- `SET 1,C` (R805). -/
def execSet1C (s : State) : Result := setBitReg .n1 .c s

/-- `SET 1,D` (R805). -/
def execSet1D (s : State) : Result := setBitReg .n1 .d s

/-- `SET 1,E` (R805). -/
def execSet1E (s : State) : Result := setBitReg .n1 .e s

/-- `SET 1,H` (R805). -/
def execSet1H (s : State) : Result := setBitReg .n1 .h s

/-- `SET 1,L` (R805). -/
def execSet1L (s : State) : Result := setBitReg .n1 .l s

/-- `SET 1,(HL)` (R806). -/
def execSet1AtHl (s : State) : Result := setBitMem .n1 s

/-- `SET 1,A` (R805). -/
def execSet1A (s : State) : Result := setBitReg .n1 .a s

/-- `SET 2,B` (R805). -/
def execSet2B (s : State) : Result := setBitReg .n2 .b s

/-- `SET 2,C` (R805). -/
def execSet2C (s : State) : Result := setBitReg .n2 .c s

/-- `SET 2,D` (R805). -/
def execSet2D (s : State) : Result := setBitReg .n2 .d s

/-- `SET 2,E` (R805). -/
def execSet2E (s : State) : Result := setBitReg .n2 .e s

/-- `SET 2,H` (R805). -/
def execSet2H (s : State) : Result := setBitReg .n2 .h s

/-- `SET 2,L` (R805). -/
def execSet2L (s : State) : Result := setBitReg .n2 .l s

/-- `SET 2,(HL)` (R806). -/
def execSet2AtHl (s : State) : Result := setBitMem .n2 s

/-- `SET 2,A` (R805). -/
def execSet2A (s : State) : Result := setBitReg .n2 .a s

/-- `SET 3,B` (R805). -/
def execSet3B (s : State) : Result := setBitReg .n3 .b s

/-- `SET 3,C` (R805). -/
def execSet3C (s : State) : Result := setBitReg .n3 .c s

/-- `SET 3,D` (R805). -/
def execSet3D (s : State) : Result := setBitReg .n3 .d s

/-- `SET 3,E` (R805). -/
def execSet3E (s : State) : Result := setBitReg .n3 .e s

/-- `SET 3,H` (R805). -/
def execSet3H (s : State) : Result := setBitReg .n3 .h s

/-- `SET 3,L` (R805). -/
def execSet3L (s : State) : Result := setBitReg .n3 .l s

/-- `SET 3,(HL)` (R806). -/
def execSet3AtHl (s : State) : Result := setBitMem .n3 s

/-- `SET 3,A` (R805). -/
def execSet3A (s : State) : Result := setBitReg .n3 .a s

/-- `SET 4,B` (R805). -/
def execSet4B (s : State) : Result := setBitReg .n4 .b s

/-- `SET 4,C` (R805). -/
def execSet4C (s : State) : Result := setBitReg .n4 .c s

/-- `SET 4,D` (R805). -/
def execSet4D (s : State) : Result := setBitReg .n4 .d s

/-- `SET 4,E` (R805). -/
def execSet4E (s : State) : Result := setBitReg .n4 .e s

/-- `SET 4,H` (R805). -/
def execSet4H (s : State) : Result := setBitReg .n4 .h s

/-- `SET 4,L` (R805). -/
def execSet4L (s : State) : Result := setBitReg .n4 .l s

/-- `SET 4,(HL)` (R806). -/
def execSet4AtHl (s : State) : Result := setBitMem .n4 s

/-- `SET 4,A` (R805). -/
def execSet4A (s : State) : Result := setBitReg .n4 .a s

/-- `SET 5,B` (R805). -/
def execSet5B (s : State) : Result := setBitReg .n5 .b s

/-- `SET 5,C` (R805). -/
def execSet5C (s : State) : Result := setBitReg .n5 .c s

/-- `SET 5,D` (R805). -/
def execSet5D (s : State) : Result := setBitReg .n5 .d s

/-- `SET 5,E` (R805). -/
def execSet5E (s : State) : Result := setBitReg .n5 .e s

/-- `SET 5,H` (R805). -/
def execSet5H (s : State) : Result := setBitReg .n5 .h s

/-- `SET 5,L` (R805). -/
def execSet5L (s : State) : Result := setBitReg .n5 .l s

/-- `SET 5,(HL)` (R806). -/
def execSet5AtHl (s : State) : Result := setBitMem .n5 s

/-- `SET 5,A` (R805). -/
def execSet5A (s : State) : Result := setBitReg .n5 .a s

/-- `SET 6,B` (R805). -/
def execSet6B (s : State) : Result := setBitReg .n6 .b s

/-- `SET 6,C` (R805). -/
def execSet6C (s : State) : Result := setBitReg .n6 .c s

/-- `SET 6,D` (R805). -/
def execSet6D (s : State) : Result := setBitReg .n6 .d s

/-- `SET 6,E` (R805). -/
def execSet6E (s : State) : Result := setBitReg .n6 .e s

/-- `SET 6,H` (R805). -/
def execSet6H (s : State) : Result := setBitReg .n6 .h s

/-- `SET 6,L` (R805). -/
def execSet6L (s : State) : Result := setBitReg .n6 .l s

/-- `SET 6,(HL)` (R806). -/
def execSet6AtHl (s : State) : Result := setBitMem .n6 s

/-- `SET 6,A` (R805). -/
def execSet6A (s : State) : Result := setBitReg .n6 .a s

/-- `SET 7,B` (R805). -/
def execSet7B (s : State) : Result := setBitReg .n7 .b s

/-- `SET 7,C` (R805). -/
def execSet7C (s : State) : Result := setBitReg .n7 .c s

/-- `SET 7,D` (R805). -/
def execSet7D (s : State) : Result := setBitReg .n7 .d s

/-- `SET 7,E` (R805). -/
def execSet7E (s : State) : Result := setBitReg .n7 .e s

/-- `SET 7,H` (R805). -/
def execSet7H (s : State) : Result := setBitReg .n7 .h s

/-- `SET 7,L` (R805). -/
def execSet7L (s : State) : Result := setBitReg .n7 .l s

/-- `SET 7,(HL)` (R806). -/
def execSet7AtHl (s : State) : Result := setBitMem .n7 s

/-- `SET 7,A` (R805). -/
def execSet7A (s : State) : Result := setBitReg .n7 .a s

end Sys2Proof.Machine
end

