-- ==== Sys2Proof/Machine/Control.lean ====
section
/-!
DEFINITION. The meanings of jumps, calls, returns and restarts (R900-R920): the operations the rows share,
then one definition per row of the opcode table. An instruction runs with pc already past all of its
bytes (R22); its count of machine cycles is the row's (R331).
-/

namespace Sys2Proof.Machine

/-- `JP a16` (R901). -/
def jumpTo (t : Word) (s : State) : Result := retire 4 (s.setPc t)

/-- `JP cc,a16` (R902). -/
def jumpIf (cc : Cond) (t : Word) (s : State) : Result :=
  if condHolds cc s.cpu.f then retire 4 (s.setPc t) else retire 3 s

/-- `JP (HL)` (R903): no memory is read. -/
def jumpHl (s : State) : Result := retire 1 (s.setPc s.hl)

/-- `JR e8` (R904): relative to the pc past the instruction. -/
def jumpRel (e : Byte) (s : State) : Result := retire 3 (s.setPc (s.cpu.pc + sext16 e))

/-- `JR cc,e8` (R905). -/
def jumpRelIf (cc : Cond) (e : Byte) (s : State) : Result :=
  if condHolds cc s.cpu.f then retire 3 (s.setPc (s.cpu.pc + sext16 e)) else retire 2 s

/-- `CALL a16` (R910): the pushed pc is the address past the CALL. -/
def callTo (t : Word) (s : State) : Result := retire 6 ((push16 s.cpu.pc s).setPc t)

/-- `CALL cc,a16` (R911). -/
def callIf (cc : Cond) (t : Word) (s : State) : Result :=
  if condHolds cc s.cpu.f then retire 6 ((push16 s.cpu.pc s).setPc t) else retire 3 s

/-- `RET` (R912). -/
def returnPlain (s : State) : Result := retire 4 ((popState s).setPc (popValue s))

/-- `RET cc` (R913). -/
def returnIf (cc : Cond) (s : State) : Result :=
  if condHolds cc s.cpu.f then retire 5 ((popState s).setPc (popValue s)) else retire 2 s

/-- `RETI` (R914). -/
def returnEnable (s : State) : Result := retire 4 (returnFromInterrupt s)

/-- `RST t` (R920): the pushed pc is the address past the RST. -/
def restart (t : Num3) (s : State) : Result := retire 4 ((push16 s.cpu.pc s).setPc (rstTarget t))

/-! ## One meaning per row -/

/-- `JR e8` (R904). -/
def execJrE8 (e8 : Byte) (s : State) : Result := jumpRel e8 s

/-- `JR NZ,e8` (R905). -/
def execJrNzE8 (e8 : Byte) (s : State) : Result := jumpRelIf .nz e8 s

/-- `JR Z,e8` (R905). -/
def execJrZE8 (e8 : Byte) (s : State) : Result := jumpRelIf .z e8 s

/-- `JR NC,e8` (R905). -/
def execJrNcE8 (e8 : Byte) (s : State) : Result := jumpRelIf .nc e8 s

/-- `JR C,e8` (R905). -/
def execJrCE8 (e8 : Byte) (s : State) : Result := jumpRelIf .c e8 s

/-- `RET NZ` (R913). -/
def execRetNz (s : State) : Result := returnIf .nz s

/-- `JP NZ,a16` (R902). -/
def execJpNzA16 (a16 : Word) (s : State) : Result := jumpIf .nz a16 s

/-- `JP a16` (R901). -/
def execJpA16 (a16 : Word) (s : State) : Result := jumpTo a16 s

/-- `CALL NZ,a16` (R911). -/
def execCallNzA16 (a16 : Word) (s : State) : Result := callIf .nz a16 s

/-- `RST 00H` (R920). -/
def execRst00 (s : State) : Result := restart .n0 s

/-- `RET Z` (R913). -/
def execRetZ (s : State) : Result := returnIf .z s

/-- `RET` (R912). -/
def execRet (s : State) : Result := returnPlain s

/-- `JP Z,a16` (R902). -/
def execJpZA16 (a16 : Word) (s : State) : Result := jumpIf .z a16 s

/-- `CALL Z,a16` (R911). -/
def execCallZA16 (a16 : Word) (s : State) : Result := callIf .z a16 s

/-- `CALL a16` (R910). -/
def execCallA16 (a16 : Word) (s : State) : Result := callTo a16 s

/-- `RST 08H` (R920). -/
def execRst08 (s : State) : Result := restart .n1 s

/-- `RET NC` (R913). -/
def execRetNc (s : State) : Result := returnIf .nc s

/-- `JP NC,a16` (R902). -/
def execJpNcA16 (a16 : Word) (s : State) : Result := jumpIf .nc a16 s

/-- `CALL NC,a16` (R911). -/
def execCallNcA16 (a16 : Word) (s : State) : Result := callIf .nc a16 s

/-- `RST 10H` (R920). -/
def execRst10 (s : State) : Result := restart .n2 s

/-- `RET C` (R913). -/
def execRetC (s : State) : Result := returnIf .c s

/-- `RETI` (R914). -/
def execReti (s : State) : Result := returnEnable s

/-- `JP C,a16` (R902). -/
def execJpCA16 (a16 : Word) (s : State) : Result := jumpIf .c a16 s

/-- `CALL C,a16` (R911). -/
def execCallCA16 (a16 : Word) (s : State) : Result := callIf .c a16 s

/-- `RST 18H` (R920). -/
def execRst18 (s : State) : Result := restart .n3 s

/-- `RST 20H` (R920). -/
def execRst20 (s : State) : Result := restart .n4 s

/-- `JP (HL)` (R903). -/
def execJpAtHl (s : State) : Result := jumpHl s

/-- `RST 28H` (R920). -/
def execRst28 (s : State) : Result := restart .n5 s

/-- `RST 30H` (R920). -/
def execRst30 (s : State) : Result := restart .n6 s

/-- `RST 38H` (R920). -/
def execRst38 (s : State) : Result := restart .n7 s

end Sys2Proof.Machine
end

