-- ==== Sys2Proof/Machine/Load.lean ====
section
/-!
DEFINITION. The meanings of loads, stores and stack transfers (R400-R442): the operations the rows share,
then one definition per row of the opcode table. An instruction runs with pc already past all of its
bytes (R22); its count of machine cycles is the row's (R331).
-/

namespace Sys2Proof.Machine

/-- `LD r,r'` (R401). -/
def ldRegReg (d r : Reg8) (s : State) : Result := retire 1 (s.setReg8 d (s.reg8 r))

/-- `LD r,d8` (R402). -/
def ldRegImm (r : Reg8) (n : Byte) (s : State) : Result := retire 2 (s.setReg8 r n)

/-- `LD r,(HL)` (R403): read at the old HL. -/
def ldRegMem (r : Reg8) (s : State) : Result := retire 2 (s.setReg8 r (memRead s s.hl))

/-- `LD (HL),r` (R404). -/
def ldMemReg (r : Reg8) (s : State) : Result := retire 2 (memWrite s.hl (s.reg8 r) s)

/-- `LD (HL),d8` (R405). -/
def ldMemImm (n : Byte) (s : State) : Result := retire 3 (memWrite s.hl n s)

/-- `x[A] <- MemRead(a, 1)` (R406, R407, R410, R411, R413). -/
def loadA (a : Word) (cycles : Nat) (s : State) : Result := retire cycles (s.setReg8 .a (memRead s a))

/-- `MemWrite(a, 1, x[A])` (R408, R409, R412, R414, R415). -/
def storeA (a : Word) (cycles : Nat) (s : State) : Result := retire cycles (memWrite a s.cpu.a s)

/-- `LD A,(HL+)` and `LD A,(HL-)` (R418, R419): HL moves by `delta` modulo 2^16. -/
def loadAStepHl (delta : Word) (s : State) : Result :=
  retire 2 ((s.setReg8 .a (memRead s s.hl)).setReg16 .hl (s.hl + delta))

/-- `LD (HL+),A` and `LD (HL-),A` (R416, R417): HL moves by `delta` modulo 2^16. -/
def storeAStepHl (delta : Word) (s : State) : Result :=
  retire 2 ((memWrite s.hl s.cpu.a s).setReg16 .hl (s.hl + delta))

/-- `LD rr,d16` (R430). -/
def ldPairImm (rr : Reg16) (v : Word) (s : State) : Result := retire 3 (s.setReg16 rr v)

/-- `LD SP,HL` (R431). -/
def ldSpFromHl (s : State) : Result := retire 2 (s.setSp s.hl)

/-- `LD (a16),SP` (R432): low byte first, at the lower address. -/
def storeSp (a : Word) (s : State) : Result := retire 5 (memWrite16 a s.cpu.sp s)

/-- `PUSH qq` (R440). -/
def pushPair (qq : Reg16Stack) (s : State) : Result := retire 4 (push16 (s.reg16Stack qq) s)

/-- `POP rr` and `POP AF` (R441, R442). -/
def popPair (qq : Reg16Stack) (s : State) : Result :=
  retire 3 ((popState s).setReg16Stack qq (popValue s))

/-! ## One meaning per row -/

/-- `LD BC,d16` (R430). -/
def execLdBcD16 (d16 : Word) (s : State) : Result := ldPairImm .bc d16 s

/-- `LD (BC),A` (R408). -/
def execLdAtBcA (s : State) : Result := storeA s.bc 2 s

/-- `LD B,d8` (R402). -/
def execLdBD8 (d8 : Byte) (s : State) : Result := ldRegImm .b d8 s

/-- `LD (a16),SP` (R432). -/
def execLdAtA16Sp (a16 : Word) (s : State) : Result := storeSp a16 s

/-- `LD A,(BC)` (R406). -/
def execLdAAtBc (s : State) : Result := loadA s.bc 2 s

/-- `LD C,d8` (R402). -/
def execLdCD8 (d8 : Byte) (s : State) : Result := ldRegImm .c d8 s

/-- `LD DE,d16` (R430). -/
def execLdDeD16 (d16 : Word) (s : State) : Result := ldPairImm .de d16 s

/-- `LD (DE),A` (R409). -/
def execLdAtDeA (s : State) : Result := storeA s.de 2 s

/-- `LD D,d8` (R402). -/
def execLdDD8 (d8 : Byte) (s : State) : Result := ldRegImm .d d8 s

/-- `LD A,(DE)` (R407). -/
def execLdAAtDe (s : State) : Result := loadA s.de 2 s

/-- `LD E,d8` (R402). -/
def execLdED8 (d8 : Byte) (s : State) : Result := ldRegImm .e d8 s

/-- `LD HL,d16` (R430). -/
def execLdHlD16 (d16 : Word) (s : State) : Result := ldPairImm .hl d16 s

/-- `LD (HL+),A` (R416). -/
def execLdAtHlIncA (s : State) : Result := storeAStepHl 0x0001#16 s

/-- `LD H,d8` (R402). -/
def execLdHD8 (d8 : Byte) (s : State) : Result := ldRegImm .h d8 s

/-- `LD A,(HL+)` (R418). -/
def execLdAAtHlInc (s : State) : Result := loadAStepHl 0x0001#16 s

/-- `LD L,d8` (R402). -/
def execLdLD8 (d8 : Byte) (s : State) : Result := ldRegImm .l d8 s

/-- `LD SP,d16` (R430). -/
def execLdSpD16 (d16 : Word) (s : State) : Result := ldPairImm .sp d16 s

/-- `LD (HL-),A` (R417). -/
def execLdAtHlDecA (s : State) : Result := storeAStepHl 0xFFFF#16 s

/-- `LD (HL),d8` (R405). -/
def execLdAtHlD8 (d8 : Byte) (s : State) : Result := ldMemImm d8 s

/-- `LD A,(HL-)` (R419). -/
def execLdAAtHlDec (s : State) : Result := loadAStepHl 0xFFFF#16 s

/-- `LD A,d8` (R402). -/
def execLdAD8 (d8 : Byte) (s : State) : Result := ldRegImm .a d8 s

/-- `LD B,B` (R401). -/
def execLdBB (s : State) : Result := ldRegReg .b .b s

/-- `LD B,C` (R401). -/
def execLdBC (s : State) : Result := ldRegReg .b .c s

/-- `LD B,D` (R401). -/
def execLdBD (s : State) : Result := ldRegReg .b .d s

/-- `LD B,E` (R401). -/
def execLdBE (s : State) : Result := ldRegReg .b .e s

/-- `LD B,H` (R401). -/
def execLdBH (s : State) : Result := ldRegReg .b .h s

/-- `LD B,L` (R401). -/
def execLdBL (s : State) : Result := ldRegReg .b .l s

/-- `LD B,(HL)` (R403). -/
def execLdBAtHl (s : State) : Result := ldRegMem .b s

/-- `LD B,A` (R401). -/
def execLdBA (s : State) : Result := ldRegReg .b .a s

/-- `LD C,B` (R401). -/
def execLdCB (s : State) : Result := ldRegReg .c .b s

/-- `LD C,C` (R401). -/
def execLdCC (s : State) : Result := ldRegReg .c .c s

/-- `LD C,D` (R401). -/
def execLdCD (s : State) : Result := ldRegReg .c .d s

/-- `LD C,E` (R401). -/
def execLdCE (s : State) : Result := ldRegReg .c .e s

/-- `LD C,H` (R401). -/
def execLdCH (s : State) : Result := ldRegReg .c .h s

/-- `LD C,L` (R401). -/
def execLdCL (s : State) : Result := ldRegReg .c .l s

/-- `LD C,(HL)` (R403). -/
def execLdCAtHl (s : State) : Result := ldRegMem .c s

/-- `LD C,A` (R401). -/
def execLdCA (s : State) : Result := ldRegReg .c .a s

/-- `LD D,B` (R401). -/
def execLdDB (s : State) : Result := ldRegReg .d .b s

/-- `LD D,C` (R401). -/
def execLdDC (s : State) : Result := ldRegReg .d .c s

/-- `LD D,D` (R401). -/
def execLdDD (s : State) : Result := ldRegReg .d .d s

/-- `LD D,E` (R401). -/
def execLdDE (s : State) : Result := ldRegReg .d .e s

/-- `LD D,H` (R401). -/
def execLdDH (s : State) : Result := ldRegReg .d .h s

/-- `LD D,L` (R401). -/
def execLdDL (s : State) : Result := ldRegReg .d .l s

/-- `LD D,(HL)` (R403). -/
def execLdDAtHl (s : State) : Result := ldRegMem .d s

/-- `LD D,A` (R401). -/
def execLdDA (s : State) : Result := ldRegReg .d .a s

/-- `LD E,B` (R401). -/
def execLdEB (s : State) : Result := ldRegReg .e .b s

/-- `LD E,C` (R401). -/
def execLdEC (s : State) : Result := ldRegReg .e .c s

/-- `LD E,D` (R401). -/
def execLdED (s : State) : Result := ldRegReg .e .d s

/-- `LD E,E` (R401). -/
def execLdEE (s : State) : Result := ldRegReg .e .e s

/-- `LD E,H` (R401). -/
def execLdEH (s : State) : Result := ldRegReg .e .h s

/-- `LD E,L` (R401). -/
def execLdEL (s : State) : Result := ldRegReg .e .l s

/-- `LD E,(HL)` (R403). -/
def execLdEAtHl (s : State) : Result := ldRegMem .e s

/-- `LD E,A` (R401). -/
def execLdEA (s : State) : Result := ldRegReg .e .a s

/-- `LD H,B` (R401). -/
def execLdHB (s : State) : Result := ldRegReg .h .b s

/-- `LD H,C` (R401). -/
def execLdHC (s : State) : Result := ldRegReg .h .c s

/-- `LD H,D` (R401). -/
def execLdHD (s : State) : Result := ldRegReg .h .d s

/-- `LD H,E` (R401). -/
def execLdHE (s : State) : Result := ldRegReg .h .e s

/-- `LD H,H` (R401). -/
def execLdHH (s : State) : Result := ldRegReg .h .h s

/-- `LD H,L` (R401). -/
def execLdHL (s : State) : Result := ldRegReg .h .l s

/-- `LD H,(HL)` (R403). -/
def execLdHAtHl (s : State) : Result := ldRegMem .h s

/-- `LD H,A` (R401). -/
def execLdHA (s : State) : Result := ldRegReg .h .a s

/-- `LD L,B` (R401). -/
def execLdLB (s : State) : Result := ldRegReg .l .b s

/-- `LD L,C` (R401). -/
def execLdLC (s : State) : Result := ldRegReg .l .c s

/-- `LD L,D` (R401). -/
def execLdLD (s : State) : Result := ldRegReg .l .d s

/-- `LD L,E` (R401). -/
def execLdLE (s : State) : Result := ldRegReg .l .e s

/-- `LD L,H` (R401). -/
def execLdLH (s : State) : Result := ldRegReg .l .h s

/-- `LD L,L` (R401). -/
def execLdLL (s : State) : Result := ldRegReg .l .l s

/-- `LD L,(HL)` (R403). -/
def execLdLAtHl (s : State) : Result := ldRegMem .l s

/-- `LD L,A` (R401). -/
def execLdLA (s : State) : Result := ldRegReg .l .a s

/-- `LD (HL),B` (R404). -/
def execLdAtHlB (s : State) : Result := ldMemReg .b s

/-- `LD (HL),C` (R404). -/
def execLdAtHlC (s : State) : Result := ldMemReg .c s

/-- `LD (HL),D` (R404). -/
def execLdAtHlD (s : State) : Result := ldMemReg .d s

/-- `LD (HL),E` (R404). -/
def execLdAtHlE (s : State) : Result := ldMemReg .e s

/-- `LD (HL),H` (R404). -/
def execLdAtHlH (s : State) : Result := ldMemReg .h s

/-- `LD (HL),L` (R404). -/
def execLdAtHlL (s : State) : Result := ldMemReg .l s

/-- `LD (HL),A` (R404). -/
def execLdAtHlA (s : State) : Result := ldMemReg .a s

/-- `LD A,B` (R401). -/
def execLdAB (s : State) : Result := ldRegReg .a .b s

/-- `LD A,C` (R401). -/
def execLdAC (s : State) : Result := ldRegReg .a .c s

/-- `LD A,D` (R401). -/
def execLdAD (s : State) : Result := ldRegReg .a .d s

/-- `LD A,E` (R401). -/
def execLdAE (s : State) : Result := ldRegReg .a .e s

/-- `LD A,H` (R401). -/
def execLdAH (s : State) : Result := ldRegReg .a .h s

/-- `LD A,L` (R401). -/
def execLdAL (s : State) : Result := ldRegReg .a .l s

/-- `LD A,(HL)` (R403). -/
def execLdAAtHl (s : State) : Result := ldRegMem .a s

/-- `LD A,A` (R401). -/
def execLdAA (s : State) : Result := ldRegReg .a .a s

/-- `POP BC` (R442). -/
def execPopBc (s : State) : Result := popPair .bc s

/-- `PUSH BC` (R440). -/
def execPushBc (s : State) : Result := pushPair .bc s

/-- `POP DE` (R442). -/
def execPopDe (s : State) : Result := popPair .de s

/-- `PUSH DE` (R440). -/
def execPushDe (s : State) : Result := pushPair .de s

/-- `LDH (a8),A` (R412). -/
def execLdhAtA8A (a8 : Byte) (s : State) : Result := storeA (highPage a8) 3 s

/-- `POP HL` (R442). -/
def execPopHl (s : State) : Result := popPair .hl s

/-- `LD (C),A` (R414). -/
def execLdAtCA (s : State) : Result := storeA (highPage s.cpu.c) 2 s

/-- `PUSH HL` (R440). -/
def execPushHl (s : State) : Result := pushPair .hl s

/-- `LD (a16),A` (R415). -/
def execLdAtA16A (a16 : Word) (s : State) : Result := storeA a16 4 s

/-- `LDH A,(a8)` (R411). -/
def execLdhAAtA8 (a8 : Byte) (s : State) : Result := loadA (highPage a8) 3 s

/-- `POP AF` (R441). -/
def execPopAf (s : State) : Result := popPair .af s

/-- `LD A,(C)` (R413). -/
def execLdAAtC (s : State) : Result := loadA (highPage s.cpu.c) 2 s

/-- `PUSH AF` (R440). -/
def execPushAf (s : State) : Result := pushPair .af s

/-- `LD SP,HL` (R431). -/
def execLdSpHl (s : State) : Result := ldSpFromHl s

/-- `LD A,(a16)` (R410). -/
def execLdAAtA16 (a16 : Word) (s : State) : Result := loadA a16 4 s

end Sys2Proof.Machine
end

