-- ==== Sys2Proof/Machine/Rotate.lean ====
section
/-!
DEFINITION. The meanings of rotates, shifts and nibble swap (R700-R725): the operations the rows share,
then one definition per row of the opcode table. An instruction runs with pc already past all of its
bytes (R22); its count of machine cycles is the row's (R331).
-/

namespace Sys2Proof.Machine

/-- RLCA, RRCA, RLA, RRA (R701-R704): Z is always cleared. -/
def rotA (o : RotOp) (s : State) : Result :=
  let out := rotOut o s.cpu.a s.fCY
  retire 1 ((s.setReg8 .a out.1).setFlags false false false out.2)

/-- The register form of a CB rotate or shift (R700). -/
def rotReg (o : RotOp) (r : Reg8) (s : State) : Result :=
  let out := rotOut o (s.reg8 r) s.fCY
  retire 2 ((s.setReg8 r out.1).setFlags (decide (out.1 = 0x00#8)) false false out.2)

/-- The `(HL)` form of a CB rotate or shift (R700): one read, then one write. -/
def rotMem (o : RotOp) (s : State) : Result :=
  let out := rotOut o (memRead s s.hl) s.fCY
  retire 4 ((memWrite s.hl out.1 s).setFlags (decide (out.1 = 0x00#8)) false false out.2)

/-! ## One meaning per row -/

/-- `RLCA` (R701). -/
def execRlca (s : State) : Result := rotA .rlc s

/-- `RRCA` (R702). -/
def execRrca (s : State) : Result := rotA .rrc s

/-- `RLA` (R703). -/
def execRla (s : State) : Result := rotA .rl s

/-- `RRA` (R704). -/
def execRra (s : State) : Result := rotA .rr s

/-- `RLC B` (R710). -/
def execRlcB (s : State) : Result := rotReg .rlc .b s

/-- `RLC C` (R710). -/
def execRlcC (s : State) : Result := rotReg .rlc .c s

/-- `RLC D` (R710). -/
def execRlcD (s : State) : Result := rotReg .rlc .d s

/-- `RLC E` (R710). -/
def execRlcE (s : State) : Result := rotReg .rlc .e s

/-- `RLC H` (R710). -/
def execRlcH (s : State) : Result := rotReg .rlc .h s

/-- `RLC L` (R710). -/
def execRlcL (s : State) : Result := rotReg .rlc .l s

/-- `RLC (HL)` (R711). -/
def execRlcAtHl (s : State) : Result := rotMem .rlc s

/-- `RLC A` (R710). -/
def execRlcA (s : State) : Result := rotReg .rlc .a s

/-- `RRC B` (R712). -/
def execRrcB (s : State) : Result := rotReg .rrc .b s

/-- `RRC C` (R712). -/
def execRrcC (s : State) : Result := rotReg .rrc .c s

/-- `RRC D` (R712). -/
def execRrcD (s : State) : Result := rotReg .rrc .d s

/-- `RRC E` (R712). -/
def execRrcE (s : State) : Result := rotReg .rrc .e s

/-- `RRC H` (R712). -/
def execRrcH (s : State) : Result := rotReg .rrc .h s

/-- `RRC L` (R712). -/
def execRrcL (s : State) : Result := rotReg .rrc .l s

/-- `RRC (HL)` (R713). -/
def execRrcAtHl (s : State) : Result := rotMem .rrc s

/-- `RRC A` (R712). -/
def execRrcA (s : State) : Result := rotReg .rrc .a s

/-- `RL B` (R714). -/
def execRlB (s : State) : Result := rotReg .rl .b s

/-- `RL C` (R714). -/
def execRlC (s : State) : Result := rotReg .rl .c s

/-- `RL D` (R714). -/
def execRlD (s : State) : Result := rotReg .rl .d s

/-- `RL E` (R714). -/
def execRlE (s : State) : Result := rotReg .rl .e s

/-- `RL H` (R714). -/
def execRlH (s : State) : Result := rotReg .rl .h s

/-- `RL L` (R714). -/
def execRlL (s : State) : Result := rotReg .rl .l s

/-- `RL (HL)` (R715). -/
def execRlAtHl (s : State) : Result := rotMem .rl s

/-- `RL A` (R714). -/
def execRlA (s : State) : Result := rotReg .rl .a s

/-- `RR B` (R716). -/
def execRrB (s : State) : Result := rotReg .rr .b s

/-- `RR C` (R716). -/
def execRrC (s : State) : Result := rotReg .rr .c s

/-- `RR D` (R716). -/
def execRrD (s : State) : Result := rotReg .rr .d s

/-- `RR E` (R716). -/
def execRrE (s : State) : Result := rotReg .rr .e s

/-- `RR H` (R716). -/
def execRrH (s : State) : Result := rotReg .rr .h s

/-- `RR L` (R716). -/
def execRrL (s : State) : Result := rotReg .rr .l s

/-- `RR (HL)` (R717). -/
def execRrAtHl (s : State) : Result := rotMem .rr s

/-- `RR A` (R716). -/
def execRrA (s : State) : Result := rotReg .rr .a s

/-- `SLA B` (R718). -/
def execSlaB (s : State) : Result := rotReg .sla .b s

/-- `SLA C` (R718). -/
def execSlaC (s : State) : Result := rotReg .sla .c s

/-- `SLA D` (R718). -/
def execSlaD (s : State) : Result := rotReg .sla .d s

/-- `SLA E` (R718). -/
def execSlaE (s : State) : Result := rotReg .sla .e s

/-- `SLA H` (R718). -/
def execSlaH (s : State) : Result := rotReg .sla .h s

/-- `SLA L` (R718). -/
def execSlaL (s : State) : Result := rotReg .sla .l s

/-- `SLA (HL)` (R719). -/
def execSlaAtHl (s : State) : Result := rotMem .sla s

/-- `SLA A` (R718). -/
def execSlaA (s : State) : Result := rotReg .sla .a s

/-- `SRA B` (R720). -/
def execSraB (s : State) : Result := rotReg .sra .b s

/-- `SRA C` (R720). -/
def execSraC (s : State) : Result := rotReg .sra .c s

/-- `SRA D` (R720). -/
def execSraD (s : State) : Result := rotReg .sra .d s

/-- `SRA E` (R720). -/
def execSraE (s : State) : Result := rotReg .sra .e s

/-- `SRA H` (R720). -/
def execSraH (s : State) : Result := rotReg .sra .h s

/-- `SRA L` (R720). -/
def execSraL (s : State) : Result := rotReg .sra .l s

/-- `SRA (HL)` (R721). -/
def execSraAtHl (s : State) : Result := rotMem .sra s

/-- `SRA A` (R720). -/
def execSraA (s : State) : Result := rotReg .sra .a s

/-- `SWAP B` (R722). -/
def execSwapB (s : State) : Result := rotReg .swap .b s

/-- `SWAP C` (R722). -/
def execSwapC (s : State) : Result := rotReg .swap .c s

/-- `SWAP D` (R722). -/
def execSwapD (s : State) : Result := rotReg .swap .d s

/-- `SWAP E` (R722). -/
def execSwapE (s : State) : Result := rotReg .swap .e s

/-- `SWAP H` (R722). -/
def execSwapH (s : State) : Result := rotReg .swap .h s

/-- `SWAP L` (R722). -/
def execSwapL (s : State) : Result := rotReg .swap .l s

/-- `SWAP (HL)` (R723). -/
def execSwapAtHl (s : State) : Result := rotMem .swap s

/-- `SWAP A` (R722). -/
def execSwapA (s : State) : Result := rotReg .swap .a s

/-- `SRL B` (R724). -/
def execSrlB (s : State) : Result := rotReg .srl .b s

/-- `SRL C` (R724). -/
def execSrlC (s : State) : Result := rotReg .srl .c s

/-- `SRL D` (R724). -/
def execSrlD (s : State) : Result := rotReg .srl .d s

/-- `SRL E` (R724). -/
def execSrlE (s : State) : Result := rotReg .srl .e s

/-- `SRL H` (R724). -/
def execSrlH (s : State) : Result := rotReg .srl .h s

/-- `SRL L` (R724). -/
def execSrlL (s : State) : Result := rotReg .srl .l s

/-- `SRL (HL)` (R725). -/
def execSrlAtHl (s : State) : Result := rotMem .srl s

/-- `SRL A` (R724). -/
def execSrlA (s : State) : Result := rotReg .srl .a s

end Sys2Proof.Machine
end

