-- ==== Sys2Proof/Machine/System.lean ====
section
/-!
DEFINITION. The meanings of NOP, HALT, STOP, DI, EI and the unused bytes (R1000-R1030): the operations the rows share,
then one definition per row of the opcode table. An instruction runs with pc already past all of its
bytes (R22); its count of machine cycles is the row's (R331).
-/

namespace Sys2Proof.Machine

/-- `HALT` (R1010): it halts, or, with the HALT bug enabled, IME = 0 and an interrupt deliverable,
sets the bug (R1011). -/
def haltCpu (s : State) : Result :=
  if s.cfg.haltBug = true ∧ s.cpu.ime = false ∧ deliverable s ≠ 0x00#8 then
    retire 1 { s with cpu := { s.cpu with haltBug := true } }
  else
    retire 1 { s with cpu := { s.cpu with halted := true } }

/-- `STOP` (R1012): its second byte has been fetched and is ignored. -/
def stopCpu (s : State) : Result := retire 1 { s with cpu := { s.cpu with stopped := true } }

/-- `DI` (R1020). -/
def disableInterrupts (s : State) : Result :=
  retire 1 { s with cpu := { s.cpu with ime := false, eiDelay := false } }

/-- `EI` (R1021): IME itself is set by the CPU step that runs the next instruction. -/
def enableInterrupts (s : State) : Result :=
  retire 1 { s with cpu := { s.cpu with eiDelay := true } }

/-- An unused byte (R320): the fallback of R1030. -/
def unknownOpcode (op : Byte) (s : State) : Result := .next (fallback (zext16 op) s)

/-! ## One meaning per row -/

/-- `NOP` (R1001). -/
def execNop (s : State) : Result := retire 1 s

/-- `STOP` (R1012). -/
def execStop (_ignored : Byte) (s : State) : Result := stopCpu s

/-- `HALT` (R1010). -/
def execHalt (s : State) : Result := haltCpu s

/-- `ILLEGAL 0xD3` (R1030). -/
def execIllegalD3 (s : State) : Result := unknownOpcode 0xD3#8 s

/-- `ILLEGAL 0xDB` (R1030). -/
def execIllegalDB (s : State) : Result := unknownOpcode 0xDB#8 s

/-- `ILLEGAL 0xDD` (R1030). -/
def execIllegalDD (s : State) : Result := unknownOpcode 0xDD#8 s

/-- `ILLEGAL 0xE3` (R1030). -/
def execIllegalE3 (s : State) : Result := unknownOpcode 0xE3#8 s

/-- `ILLEGAL 0xE4` (R1030). -/
def execIllegalE4 (s : State) : Result := unknownOpcode 0xE4#8 s

/-- `ILLEGAL 0xEB` (R1030). -/
def execIllegalEB (s : State) : Result := unknownOpcode 0xEB#8 s

/-- `ILLEGAL 0xEC` (R1030). -/
def execIllegalEC (s : State) : Result := unknownOpcode 0xEC#8 s

/-- `ILLEGAL 0xED` (R1030). -/
def execIllegalED (s : State) : Result := unknownOpcode 0xED#8 s

/-- `DI` (R1020). -/
def execDi (s : State) : Result := disableInterrupts s

/-- `ILLEGAL 0xF4` (R1030). -/
def execIllegalF4 (s : State) : Result := unknownOpcode 0xF4#8 s

/-- `EI` (R1021). -/
def execEi (s : State) : Result := enableInterrupts s

/-- `ILLEGAL 0xFC` (R1030). -/
def execIllegalFC (s : State) : Result := unknownOpcode 0xFC#8 s

/-- `ILLEGAL 0xFD` (R1030). -/
def execIllegalFD (s : State) : Result := unknownOpcode 0xFD#8 s

end Sys2Proof.Machine
end

