-- ==== Sys2Proof/Machine/Schedule.lean ====
section
/-!
DEFINITION. The CPU step of R330 (wake, interrupt, fetch, decode, execute, EI delay) and the system
step of R1270 that runs one CPU step and then the PPU.
-/

namespace Sys2Proof.Machine

/-- What the fetch of one step found: an instruction with all of its bytes fetched, or an opcode that
`P_IMPLEMENTED` leaves out, its operand bytes not fetched (R330, R1030). -/
inductive Fetched where
  | instr (i : Instr) (s : State)
  | unknown (code : Word) (s : State)

/-- Fetches the operand bytes an opcode asks for (R20, R300); `op` has been fetched. -/
def fetchOperands (op : Byte) (s : State) : Fetched :=
  match decodeOpcode op with
  | .whole i => .instr i s
  | .withByte mk => .instr (mk (fetch8 s).1) (fetch8 s).2
  | .withWord mk => .instr (mk (fetch16 s).1) (fetch16 s).2
  | .cbPrefix => .instr (decodeCb (fetch8 s).1) (fetch8 s).2

/-- The opcode bytes of a CB pair after its prefix (R323, R1025): `0xCB00 | op2`. -/
def fetchCb (s : State) : Fetched :=
  let code := joinBytes 0xCB#8 (fetch8 s).1
  if s.cfg.implements code then .instr (decodeCb (fetch8 s).1) (fetch8 s).2
  else .unknown code (fetch8 s).2

/-- The fetch and decode of R330: `start <- pc`, the opcode, then its operand bytes if the build
implements it. -/
def fetchInstr (s : State) : Fetched :=
  let s0 := { s with start := s.cpu.pc }
  let op := (fetch8 s0).1
  let s1 := (fetch8 s0).2
  if op = 0xCB#8 then fetchCb s1
  else if s.cfg.implements (zext16 op) then fetchOperands op s1
  else .unknown (zext16 op) s1

/-- The end of an instruction step (R330, R1021): an EI pending since before the step takes effect. -/
def commitEi (armed : Bool) (s : State) : State :=
  if armed && s.cpu.eiDelay then { s with cpu := { s.cpu with ime := true, eiDelay := false } } else s

/-- One instruction: fetched, executed, and the EI delay applied (R330). -/
def runInstr (s : State) : Result :=
  match fetchInstr s with
  | .unknown code t => .next (commitEi s.cpu.eiDelay (fallback code t))
  | .instr i t =>
    match exec i t with
    | .next u => .next (commitEi s.cpu.eiDelay u)
    | .fault r => .fault r
    | .refused r => .refused r

/-- STOP's wait (R330, R1012): whether the CPU is awake, and the state with a wake-up applied. -/
def wakeStop (s : State) : Bool × State :=
  if s.cpu.stopped then
    if (s.io 0x0F).getLsbD 4 then (true, { s with cpu := { s.cpu with stopped := false } })
    else (false, s)
  else (true, s)

/-- HALT's wait (R330, R1010): whether the CPU is awake, and the state with a wake-up applied. -/
def wakeHalt (s : State) : Bool × State :=
  if s.cpu.halted then
    if deliverable s ≠ 0x00#8 then (true, { s with cpu := { s.cpu with halted := false } })
    else (false, s)
  else (true, s)

/-- The interrupt the step takes instead of an instruction (R330, R1107, R1110). -/
def takenIrq (s : State) : Option Nat :=
  if s.cfg.irqDispatch && s.cpu.ime then pendingIrq s else none

/-- The step of a CPU that is awake (R330): an interrupt, else an instruction. -/
def awakeStep (s : State) : Result :=
  match takenIrq s with
  | some k => .next (dispatchInterrupt k s)
  | none => runInstr s

/-- `CpuStep()` (R330, R1110). -/
def cpuStep (s : State) : Result :=
  if s.cpu.faulted then .next (s.setCycles 0)
  else if (wakeStop s).1 = false then .next ((wakeStop s).2.setCycles 1)
  else if (wakeHalt (wakeStop s).2).1 = false then .next ((wakeHalt (wakeStop s).2).2.setCycles 1)
  else awakeStep (wakeHalt (wakeStop s).2).2

/-- The PPU's share of a system step (R1270): the CPU step's machine cycles, in dots. -/
def tickAfter (s : State) : State := ppuTick (s.mcycles * s.cfg.dotsPerMCycle) s

/-- `SystemStep()` (R1270): one CPU step, then the PPU. -/
def systemStep (s : State) : Result :=
  match cpuStep s with
  | .next t => .next (tickAfter t)
  | .fault r => .fault r
  | .refused r => .refused r

end Sys2Proof.Machine
end

