-- ==== Sys2Proof/Machine/Step.lean ====
section
/-!
DEFINITION. One step of the machine, and the placing of an instruction word of the opcode table
where that step fetches it.
-/

namespace Sys2Proof.Machine

/-- One system step (R1270). -/
def step (s : State) : Host.Outcome State Fault Refusal := systemStep s

/-- The state with an instruction word of the opcode table stored where the next step fetches. -/
def State.withFetchWord (s : State) (nbits w : Nat) : State := placeInstr (tableBytes nbits w) s

end Sys2Proof.Machine
end

