-- ==== Sys2Proof/Safety.lean ====
section
/-!
DEFINITION. The terms in which claims are put: the invariant of the block, the instruction a step
runs, the end of a run (R1340), the codes of R310, what an instruction leaves alone and what a store
reaches, the counts and flag columns of the opcode table, and the picture pixel by pixel.
-/

namespace Sys2Proof.Machine

/-! ## Storage as an address names it -/

/-- A byte of storage that a bus write replaces and nothing else depends on. -/
inductive Place where
  /-- A byte of internal storage, by its own CPU address. -/
  | internal (k : Nat)
  /-- A byte of external RAM, by bank and offset. -/
  | cartRam (b o : Nat)
  /-- The register IE. -/
  | ie
deriving DecidableEq, Repr

/-- The I/O bytes whose write is masked or ignored, or is seen through another address: IF, STAT, LY,
LYC (in STAT bit 2), DMA and BOOT (R234, R233, R142). -/
def specialIo (k : Nat) : Bool :=
  decide (k = 0xFF0F) || decide (k = 0xFF41) || decide (k = 0xFF44) || decide (k = 0xFF45) ||
    decide (k = 0xFF46) || decide (k = 0xFF50)

/-- The byte of plain read/write storage that address `a` names, if it names one (R200, R212, R265):
VRAM, selected and enabled external RAM, work RAM and its echo, OAM, plain I/O bytes, HRAM and IE. -/
def plainPlace (s : State) (a : Word) : Option Place :=
  let k := a.toNat
  if k ≤ 0x7FFF then none
  else if k ≤ 0x9FFF then some (.internal k)
  else if k ≤ 0xBFFF then
    if s.bus.ramEnable = true ∧ s.bus.ramBank.toNat < s.bus.nRam then
      some (.cartRam s.bus.ramBank.toNat (k - 0xA000))
    else none
  else if k ≤ 0xDFFF then some (.internal k)
  else if k ≤ 0xFDFF then some (.internal (k - 0x2000))
  else if k ≤ 0xFE9F then some (.internal k)
  else if k ≤ 0xFEFF then none
  else if specialIo k then none
  else if k ≤ 0xFFFE then some (.internal k)
  else some .ie

/-- Whether a byte written at `a` is what the next read of `a` gives (R440; C9 of
90_conflicts.md): plain storage, LYC or DMA, but not ROM, disabled external RAM, the
hole, or the masked registers IF, STAT, LY and BOOT. -/
def storesByte (s : State) (a : Word) : Bool :=
  (plainPlace s a).isSome || decide (a = 0xFF45#16) || decide (a = 0xFF46#16)

/-! ## The invariant -/

/-- What holds of the bus at every step boundary: the stores are in canonical form and list only
locations that exist, ROM bank 0 is never selected, and the boot shadow needs a boot ROM. -/
structure BusOk (c : Config) (b : Bus) : Prop where
  mem_wf : Memory.wf .internal b.mem = true
  rom_wf : Memory.wf .cartRom b.rom = true
  ext_wf : Memory.wf .cartRam b.ext = true
  /-- Only VRAM, WRAM, OAM, I/O and HRAM have internal storage (R120, R201, R212). -/
  mem_keys : ∀ p ∈ b.mem, isInternal p.1 = true
  /-- ROM holds bank 0 and N switchable banks of 16384 bytes (R120). -/
  rom_keys : ∀ p ∈ b.rom, p.1 < 16384 * (b.nRom + 1)
  /-- External RAM holds M banks of 8192 bytes (R120). -/
  ext_keys : ∀ p ∈ b.ext, p.1 < 8192 * b.nRam
  /-- `rom_bank` is 1..31 (R121, R242). -/
  rom_bank : b.romBank ≠ 0#5
  /-- The shadow needs a boot ROM (R122). -/
  boot : b.bootEnabled = true → c.bootRom.isSome = true

/-- What holds of the PPU at every step boundary: its counters are in range, its mode is the one they
give, and the framebuffer is in canonical form. -/
structure PpuOk (c : Config) (p : Ppu) : Prop where
  fb_wf : Cells.wf (fun _ => c.fbInit) p.fb = true
  /-- The framebuffer has 160 x 144 pixels (R131). -/
  fb_keys : ∀ q ∈ p.fb, q.1 < 160 * 144
  /-- `dot` is 0..455 (R130). -/
  dot_lt : p.dot < 456
  /-- `ly` is 0..153 (R130). -/
  ly_lt : p.ly < 154
  /-- The mode is the function of the counters R1152 gives. -/
  mode_eq : p.mode = modeOf p.ly p.dot

/-- What holds of the CPU at every step boundary: F[3:0] is 0 (R102), and a CPU with the HALT bug
pending is not waiting (R1010). -/
structure CpuOk (c : Cpu) : Prop where
  f_low : c.f &&& 0x0F#8 = 0x00#8
  bug_awake : c.haltBug = true → c.halted = false ∧ c.stopped = false

/-- The invariant of the block. -/
structure Inv (s : State) : Prop where
  bus : BusOk s.cfg s.bus
  ppu : PpuOk s.cfg s.ppu
  cpu : CpuOk s.cpu

/-- The state a CPU step reaches after its waits, or none if the step idles (R330). -/
def awakeState (s : State) : Option State :=
  if s.cpu.faulted then none
  else if (wakeStop s).1 = false then none
  else if (wakeHalt (wakeStop s).2).1 = false then none
  else some (wakeHalt (wakeStop s).2).2

/-- The instruction the next step runs, if it runs one (R330). -/
def stepInstr (s : State) : Option Instr :=
  match awakeState s with
  | none => none
  | some t =>
    match takenIrq t with
    | some _ => none
    | none =>
      match fetchInstr t with
      | .instr i _ => some i
      | .unknown _ _ => none

/-- Whether the step from `s` executed `JR -2`, or a `JP` to its own address (R1340): any form of JP
that jumps, absolute, conditional or through HL (log entry 14). -/
def selfJump (s : State) : Bool :=
  match stepInstr s with
  | some (.jrE8 e) => decide (e = 0xFE#8)
  | some (.jpA16 t) => decide (t = s.cpu.pc)
  | some (.jpNzA16 t) => !s.fZ && decide (t = s.cpu.pc)
  | some (.jpZA16 t) => s.fZ && decide (t = s.cpu.pc)
  | some (.jpNcA16 t) => !s.fCY && decide (t = s.cpu.pc)
  | some (.jpCA16 t) => s.fCY && decide (t = s.cpu.pc)
  | some .jpAtHl => decide (s.hl = s.cpu.pc)
  | _ => false

/-- The end of a run at the boundary `t`, reached by a step from `s` (R1340). -/
def runEnded (s t : State) : Bool :=
  t.cpu.faulted || (t.cpu.halted && decide (t.bus.ie &&& 0x1F#8 = 0x00#8)) || t.cpu.stopped || selfJump s

end Sys2Proof.Machine

namespace Sys2Proof

/-! ## The codes of R310 and R311 -/

/-- The 3-bit code of a register (R310). -/
def Reg8.code (r : Reg8) : BitVec 3 :=
  match r with
  | .b => 0b000#3
  | .c => 0b001#3
  | .d => 0b010#3
  | .e => 0b011#3
  | .h => 0b100#3
  | .l => 0b101#3
  | .a => 0b111#3

/-- The 3-bit code of an 8-bit operand (R310): 6 is the memory byte at HL. -/
def Operand8.code (x : Operand8) : BitVec 3 :=
  match x with
  | .reg r => r.code
  | .atHl => 0b110#3

/-- The 2-bit code of a register pair (R310). -/
def Reg16.code (rr : Reg16) : BitVec 2 :=
  match rr with
  | .bc => 0b00#2
  | .de => 0b01#2
  | .hl => 0b10#2
  | .sp => 0b11#2

/-- The 2-bit code of a stack pair (R310). -/
def Reg16Stack.code (qq : Reg16Stack) : BitVec 2 :=
  match qq with
  | .bc => 0b00#2
  | .de => 0b01#2
  | .hl => 0b10#2
  | .af => 0b11#2

/-- The 2-bit code of a condition (R310). -/
def Cond.code (cc : Cond) : BitVec 2 :=
  match cc with
  | .nz => 0b00#2
  | .z => 0b01#2
  | .nc => 0b10#2
  | .c => 0b11#2

/-- The 3-bit code of a rotate or shift (R310). -/
def RotOp.code (o : RotOp) : BitVec 3 :=
  match o with
  | .rlc => 0b000#3
  | .rrc => 0b001#3
  | .rl => 0b010#3
  | .rr => 0b011#3
  | .sla => 0b100#3
  | .sra => 0b101#3
  | .swap => 0b110#3
  | .srl => 0b111#3

/-- The 3-bit code of a bit number or restart number (R310, R311). -/
def Num3.code (k : Num3) : BitVec 3 := BitVec.ofNat 3 k.toNat

/-! ## Operands and conditions -/

/-- The byte an 8-bit operand names (R310): a register, or the memory byte at HL. -/
def Operand8.value (x : Operand8) (s : Machine.State) : Byte :=
  match x with
  | .reg r => s.reg8 r
  | .atHl => Machine.memRead s s.hl

/-- The 8-bit registers a pair is made of (R101); SP is made of none. -/
def Reg16.parts (rr : Reg16) : List Reg8 :=
  match rr with
  | .bc => [.b, .c]
  | .de => [.d, .e]
  | .hl => [.h, .l]
  | .sp => []

/-- The 8-bit registers a stack pair is made of (R101), F apart. -/
def Reg16Stack.parts (qq : Reg16Stack) : List Reg8 :=
  match qq with
  | .bc => [.b, .c]
  | .de => [.d, .e]
  | .hl => [.h, .l]
  | .af => [.a]

/-- One of two counts, by the form of the operand: register, or memory at HL. -/
def Operand8.count (x : Operand8) (register memory : Nat) : Nat :=
  match x with
  | .reg _ => register
  | .atHl => memory

/-- `Cond(c)` (R310, R900) as a property of the flags. -/
def Cond.holds (cc : Cond) (s : Machine.State) : Prop :=
  match cc with
  | .nz => s.fZ = false
  | .z => s.fZ = true
  | .nc => s.fCY = false
  | .c => s.fCY = true

namespace Machine

/-! ## Flags -/

/-- The four flags of `t` are these, and F[3:0] is 0 (R102). -/
structure HasFlags (z n h c : Bool) (t : State) : Prop where
  z : t.fZ = z
  n : t.fN = n
  h : t.fH = h
  c : t.fCY = c
  low : t.cpu.f &&& 0x0F#8 = 0x00#8

/-- The sum `A + x + cin` of R501 as integers: A takes it modulo 256; Z is its low byte being 0, H the
carry out of bit 3, CY the carry out of bit 7; N is 0. -/
structure SumToA (x : Byte) (cin : Nat) (s t : State) : Prop where
  result : t.cpu.a.toNat = (s.cpu.a.toNat + x.toNat + cin) % 256
  flags : HasFlags (decide ((s.cpu.a.toNat + x.toNat + cin) % 256 = 0)) false
    (decide (15 < s.cpu.a.toNat % 16 + x.toNat % 16 + cin))
    (decide (255 < s.cpu.a.toNat + x.toNat + cin)) t

/-- The flags of the difference `A - x - cin` of R501 as integers: Z is the difference modulo 256 being
0, H the borrow of the low nibble, CY the borrow of the byte; N is 1. -/
def DifferenceFlags (x : Byte) (cin : Nat) (s t : State) : Prop :=
  HasFlags (decide (((s.cpu.a.toNat : Int) - x.toNat - cin) % 256 = 0)) true
    (decide (s.cpu.a.toNat % 16 < x.toNat % 16 + cin))
    (decide (s.cpu.a.toNat < x.toNat + cin)) t

/-- The difference `A - x - cin` of R501: A takes it modulo 256, and the flags are those of the
difference. -/
structure DifferenceToA (x : Byte) (cin : Nat) (s t : State) : Prop where
  result : (t.cpu.a.toNat : Int) = ((s.cpu.a.toNat : Int) - x.toNat - cin) % 256
  flags : DifferenceFlags x cin s t

/-! ## What is left alone -/

/-- Every register but those listed keeps its value, and so do the control bits, the fault log, the
parameters, the PPU and `start`; SP, PC, F and memory are spoken of separately. -/
structure Kept (written : List Reg8) (s t : State) : Prop where
  regs : ∀ r : Reg8, r ∉ written → t.reg8 r = s.reg8 r
  ime : t.cpu.ime = s.cpu.ime
  eiDelay : t.cpu.eiDelay = s.cpu.eiDelay
  halted : t.cpu.halted = s.cpu.halted
  stopped : t.cpu.stopped = s.cpu.stopped
  haltBug : t.cpu.haltBug = s.cpu.haltBug
  faulted : t.cpu.faulted = s.cpu.faulted
  faultLog : t.faultLog = s.faultLog
  cfg : t.cfg = s.cfg
  ppu : t.ppu = s.ppu
  start : t.start = s.start

/-- As `Kept`, with SP and PC unchanged too. -/
structure KeptSpPc (written : List Reg8) (s t : State) : Prop extends Kept written s t where
  sp : t.cpu.sp = s.cpu.sp
  pc : t.cpu.pc = s.cpu.pc

/-- Memory is unchanged: the bus holds what it held, and every address reads as before. -/
structure SameMemory (s t : State) : Prop where
  bus : t.bus = s.bus
  reads : ∀ a : Word, memRead t a = memRead s a

/-- Whether a write at `a` can change what a read at `b` gives (R212, R230, R263): the byte itself and
its echo; a whole window for a banking write; LYC's comparison in STAT; OAM for the DMA copy; the
first 256 bytes for BOOT; nothing for the ignored ranges and LY. -/
def writeReach (a b : Word) : Bool :=
  let i := a.toNat
  let j := b.toNat
  if i ≤ 0x1FFF then decide (0xA000 ≤ j ∧ j ≤ 0xBFFF)
  else if i ≤ 0x3FFF then decide (0x4000 ≤ j ∧ j ≤ 0x7FFF)
  else if i ≤ 0x5FFF then decide (0xA000 ≤ j ∧ j ≤ 0xBFFF)
  else if i ≤ 0x7FFF then false
  else if i ≤ 0xBFFF then decide (j = i)
  else if i ≤ 0xDFFF then decide (j = i ∨ (j = i + 0x2000 ∧ j ≤ 0xFDFF))
  else if i ≤ 0xFDFF then decide (j = i ∨ j + 0x2000 = i)
  else if i ≤ 0xFE9F then decide (j = i)
  else if i ≤ 0xFEFF then false
  else if i = 0xFF44 then false
  else if i = 0xFF45 then decide (j = i ∨ j = 0xFF41)
  else if i = 0xFF46 then decide (j = i ∨ (0xFE00 ≤ j ∧ j ≤ 0xFE9F))
  else if i = 0xFF50 then decide (j ≤ 0x00FF)
  else decide (j = i)

/-- `t`'s memory is that of `s` after `MemWrite(a, 1, v)` (R230): on a bus that is as it should be,
`a` then reads `v` where it is storage, and every address out of the write's reach reads as before. -/
structure Stored (a : Word) (v : Byte) (s t : State) : Prop where
  bus : t.bus = (memWrite a v s).bus
  value : BusOk s.cfg s.bus → storesByte s a = true → memRead t a = v
  others : BusOk s.cfg s.bus → ∀ b : Word, writeReach a b = false → memRead t b = memRead s b

/-- `t`'s memory is that of `s` after `MemWrite(a, 1, v)` and then `MemWrite(b, 1, w)`. -/
structure StoredTwo (a : Word) (v : Byte) (b : Word) (w : Byte) (s t : State) : Prop where
  bus : t.bus = (memWrite b w (memWrite a v s)).bus
  values : BusOk s.cfg s.bus → storesByte s a = true → storesByte s b = true →
    memRead t a = v ∧ memRead t b = w
  others : BusOk s.cfg s.bus → ∀ c : Word, writeReach a c = false → writeReach b c = false →
    memRead t c = memRead s c

/-- The operand takes the value, and nothing else of registers, SP, PC and memory changes: a register
form writes that register and no memory, the memory form writes the byte at HL and no register. -/
def Writes (x : Operand8) (v : Byte) (s t : State) : Prop :=
  match x with
  | .reg r => t.reg8 r = v ∧ KeptSpPc [r] s t ∧ SameMemory s t
  | .atHl => KeptSpPc [] s t ∧ Stored s.hl v s t

/-- A register-only instruction: it writes at most these registers and leaves SP, PC and memory. -/
def RegistersOnly (written : List Reg8) (s t : State) : Prop :=
  KeptSpPc written s t ∧ SameMemory s t

/-! ## The machine cycles of the opcode maps (R313, R315) -/

/-- Row `hi` of the map of R313: the machine cycles of each opcode byte, the taken count for a
conditional instruction, 0 for an unused byte and for the CB prefix. -/
def cyclesRow (hi : Nat) : List Nat :=
  match hi with
  | 0 => [1, 3, 2, 2, 1, 1, 2, 1, 5, 2, 2, 2, 1, 1, 2, 1]
  | 1 => [1, 3, 2, 2, 1, 1, 2, 1, 3, 2, 2, 2, 1, 1, 2, 1]
  | 2 => [3, 3, 2, 2, 1, 1, 2, 1, 3, 2, 2, 2, 1, 1, 2, 1]
  | 3 => [3, 3, 2, 2, 3, 3, 3, 1, 3, 2, 2, 2, 1, 1, 2, 1]
  | 4 => [1, 1, 1, 1, 1, 1, 2, 1, 1, 1, 1, 1, 1, 1, 2, 1]
  | 5 => [1, 1, 1, 1, 1, 1, 2, 1, 1, 1, 1, 1, 1, 1, 2, 1]
  | 6 => [1, 1, 1, 1, 1, 1, 2, 1, 1, 1, 1, 1, 1, 1, 2, 1]
  | 7 => [2, 2, 2, 2, 2, 2, 1, 2, 1, 1, 1, 1, 1, 1, 2, 1]
  | 8 => [1, 1, 1, 1, 1, 1, 2, 1, 1, 1, 1, 1, 1, 1, 2, 1]
  | 9 => [1, 1, 1, 1, 1, 1, 2, 1, 1, 1, 1, 1, 1, 1, 2, 1]
  | 10 => [1, 1, 1, 1, 1, 1, 2, 1, 1, 1, 1, 1, 1, 1, 2, 1]
  | 11 => [1, 1, 1, 1, 1, 1, 2, 1, 1, 1, 1, 1, 1, 1, 2, 1]
  | 12 => [5, 3, 4, 4, 6, 4, 2, 4, 5, 4, 4, 0, 6, 6, 2, 4]
  | 13 => [5, 3, 4, 0, 6, 4, 2, 4, 5, 4, 4, 0, 6, 0, 2, 4]
  | 14 => [3, 3, 2, 0, 0, 4, 2, 4, 4, 1, 4, 0, 0, 0, 2, 4]
  | 15 => [3, 3, 2, 1, 0, 4, 2, 4, 3, 2, 4, 1, 0, 0, 2, 4]
  | _ => []

/-- The not-taken counts of R313, by opcode byte. -/
def notTakenCycles : List (Nat × Nat) :=
  [(0x20, 2), (0x28, 2), (0x30, 2), (0x38, 2), (0xC0, 2), (0xC2, 3), (0xC4, 3), (0xC8, 2),
    (0xCA, 3), (0xCC, 3), (0xD0, 2), (0xD2, 3), (0xD4, 3), (0xD8, 2), (0xDA, 3), (0xDC, 3)]

/-- The count of a CB pair (R315): 2 for a register, 3 for `BIT b,(HL)`, 4 for the other `(HL)` forms. -/
def cyclesCb (op2 : Byte) : Nat :=
  if op2.toNat % 8 = 6 then (if op2.toNat / 64 = 1 then 3 else 4) else 2

/-- The count of an unprefixed opcode byte with the flags `f` (R313, R331, R900): the condition of a
conditional instruction is bits 4:3 of the opcode. -/
def cyclesUnprefixed (op f : Byte) : Nat :=
  match notTakenCycles.find? fun p => p.1 = op.toNat with
  | some p =>
    if condHolds (condOf (op.extractLsb' 3 2)) f then (cyclesRow (op.toNat / 16)).getD (op.toNat % 16) 0
    else p.2
  | none => (cyclesRow (op.toNat / 16)).getD (op.toNat % 16) 0

/-- The machine cycles the opcode maps give an instruction, with the flags `f` (R331). -/
def tableCycles (i : Instr) (f : Byte) : Nat :=
  match encode i with
  | [] => 0
  | op :: rest => if op = 0xCB#8 then cyclesCb (rest.headD 0x00#8) else cyclesUnprefixed op f

/-! ## The flag columns of the opcode table (R350) -/

/-- One entry of a flag column (R350): unchanged, 0, 1, or computed. -/
inductive FlagEffect where
  | keep
  | zero
  | one
  | computed
deriving DecidableEq, Repr

/-- The effects on Z, N, H and CY, in that order (R350). -/
structure FlagColumn where
  z : FlagEffect
  n : FlagEffect
  h : FlagEffect
  c : FlagEffect
deriving DecidableEq, Repr

/-- The column `----`. -/
def FlagColumn.none : FlagColumn := ⟨.keep, .keep, .keep, .keep⟩
/-- The column `Z0HC`. -/
def FlagColumn.z0hc : FlagColumn := ⟨.computed, .zero, .computed, .computed⟩
/-- The column `Z1HC`. -/
def FlagColumn.z1hc : FlagColumn := ⟨.computed, .one, .computed, .computed⟩
/-- The column `Z000`. -/
def FlagColumn.z000 : FlagColumn := ⟨.computed, .zero, .zero, .zero⟩
/-- The column `Z010`. -/
def FlagColumn.z010 : FlagColumn := ⟨.computed, .zero, .one, .zero⟩
/-- The column `Z0H-`. -/
def FlagColumn.z0hk : FlagColumn := ⟨.computed, .zero, .computed, .keep⟩
/-- The column `Z1H-`. -/
def FlagColumn.z1hk : FlagColumn := ⟨.computed, .one, .computed, .keep⟩
/-- The column `000C`. -/
def FlagColumn.r000c : FlagColumn := ⟨.zero, .zero, .zero, .computed⟩
/-- The column `-0HC`. -/
def FlagColumn.k0hc : FlagColumn := ⟨.keep, .zero, .computed, .computed⟩
/-- The column `00HC`. -/
def FlagColumn.r00hc : FlagColumn := ⟨.zero, .zero, .computed, .computed⟩
/-- The column `Z-0C`. -/
def FlagColumn.zk0c : FlagColumn := ⟨.computed, .keep, .zero, .computed⟩
/-- The column `-11-`. -/
def FlagColumn.k11k : FlagColumn := ⟨.keep, .one, .one, .keep⟩
/-- The column `-001`. -/
def FlagColumn.k001 : FlagColumn := ⟨.keep, .zero, .zero, .one⟩
/-- The column `-00C`. -/
def FlagColumn.k00c : FlagColumn := ⟨.keep, .zero, .zero, .computed⟩
/-- The column `ZNHC`. -/
def FlagColumn.znhc : FlagColumn := ⟨.computed, .computed, .computed, .computed⟩
/-- The column `Z00C`. -/
def FlagColumn.z00c : FlagColumn := ⟨.computed, .zero, .zero, .computed⟩
/-- The column `Z01-`. -/
def FlagColumn.z01k : FlagColumn := ⟨.computed, .zero, .one, .keep⟩

/-- Row `hi` of the table's flag columns for the opcode bytes `16*hi + lo`; an unused byte and the CB
prefix change no flag. -/
def flagRow (hi : Nat) : List FlagColumn :=
  match hi with
  | 0 => [.none, .none, .none, .none, .z0hk, .z1hk, .none, .r000c,
    .none, .k0hc, .none, .none, .z0hk, .z1hk, .none, .r000c]
  | 1 => [.none, .none, .none, .none, .z0hk, .z1hk, .none, .r000c,
    .none, .k0hc, .none, .none, .z0hk, .z1hk, .none, .r000c]
  | 2 => [.none, .none, .none, .none, .z0hk, .z1hk, .none, .zk0c,
    .none, .k0hc, .none, .none, .z0hk, .z1hk, .none, .k11k]
  | 3 => [.none, .none, .none, .none, .z0hk, .z1hk, .none, .k001,
    .none, .k0hc, .none, .none, .z0hk, .z1hk, .none, .k00c]
  | 4 => List.replicate 16 .none
  | 5 => List.replicate 16 .none
  | 6 => List.replicate 16 .none
  | 7 => List.replicate 16 .none
  | 8 => List.replicate 16 .z0hc
  | 9 => List.replicate 16 .z1hc
  | 10 => List.replicate 8 .z010 ++ List.replicate 8 .z000
  | 11 => List.replicate 8 .z000 ++ List.replicate 8 .z1hc
  | 12 => [.none, .none, .none, .none, .none, .none, .z0hc, .none,
    .none, .none, .none, .none, .none, .none, .z0hc, .none]
  | 13 => [.none, .none, .none, .none, .none, .none, .z1hc, .none,
    .none, .none, .none, .none, .none, .none, .z1hc, .none]
  | 14 => [.none, .none, .none, .none, .none, .none, .z010, .none,
    .r00hc, .none, .none, .none, .none, .none, .z000, .none]
  | 15 => [.none, .znhc, .none, .none, .none, .none, .z000, .none,
    .r00hc, .none, .none, .none, .none, .none, .z1hc, .none]
  | _ => []

/-- The flag column of a CB pair, by the group in bits 7:6 of its second byte. -/
def flagColumnCb (op2 : Byte) : FlagColumn :=
  match op2.toNat / 64 with
  | 0 => if op2.toNat / 8 % 8 = 6 then .z000 else .z00c
  | 1 => .z01k
  | _ => .none

/-- The flag column of an instruction's row (R350). -/
def flagColumn (i : Instr) : FlagColumn :=
  match encode i with
  | [] => .none
  | op :: rest =>
    if op = 0xCB#8 then flagColumnCb (rest.headD 0x00#8)
    else (flagRow (op.toNat / 16)).getD (op.toNat % 16) .none

/-- Whether a flag went from `old` to `new` as its column entry allows. -/
def FlagEffect.allows (e : FlagEffect) (old new : Bool) : Prop :=
  match e with
  | .keep => new = old
  | .zero => new = false
  | .one => new = true
  | .computed => True

/-! ## The picture, pixel by pixel -/

/-- Bit `b` of two bitplane bytes as a colour index (R1182): the first byte gives bit 0. -/
def colourIndex (lo hi : Byte) (b : Nat) : Nat := 2 * (hi.getLsbD b).toNat + (lo.getLsbD b).toNat

/-- The shade a palette byte gives a colour index (R147): bits `2c+1:2c`. -/
def shadeIndex (pal : Byte) (c : Nat) : Nat := pal.toNat / 4 ^ c % 4

/-- `P_SHADE[n]` (R1183). -/
def shadePixel (s : State) (n : Nat) : BitVec 32 :=
  [s.cfg.shade.white, s.cfg.shade.light, s.cfg.shade.dark].getD n s.cfg.shade.black

/-- The colour index at column `col` of row `row` of background or window tile `idx` (R1182): tile data
from 0x8000 unsigned or from 0x9000 signed, by LCDC bit 4; two bytes a row, leftmost pixel bit 7. -/
def tileColour (s : State) (idx row col : Nat) : Nat :=
  let base : Nat :=
    if (memRead s 0xFF40#16).getLsbD 4 then 0x8000 + 16 * idx
    else if idx < 128 then 0x9000 + 16 * idx else 0x9000 + 16 * idx - 0x1000
  let lo := memRead s (BitVec.ofNat 16 (base + 2 * row))
  let hi := memRead s (BitVec.ofNat 16 (base + 2 * row + 1))
  colourIndex lo hi (7 - col)

/-- The colour index at pixel (px, py) of the 256 x 256 plane of the tile map at `map` (R1181). -/
def planeColourAt (s : State) (map px py : Nat) : Nat :=
  tileColour s (memRead s (BitVec.ofNat 16 (map + py / 8 * 32 + px / 8))).toNat (py % 8) (px % 8)

/-- The background or window colour index of screen pixel (x, y) (R1180, R1181, R1191). -/
def screenColour (s : State) (x y : Nat) : Nat :=
  let lcdc := memRead s 0xFF40#16
  let scy := (memRead s 0xFF42#16).toNat
  let scx := (memRead s 0xFF43#16).toNat
  let wy := (memRead s 0xFF4A#16).toNat
  let wx := (memRead s 0xFF4B#16).toNat
  if s.cfg.lcdc0Blanks = true ∧ lcdc.getLsbD 0 = false then 0
  else if lcdc.getLsbD 5 = true ∧ wy ≤ y ∧ wx ≤ x + 7 then
    planeColourAt s (if lcdc.getLsbD 6 then 0x9C00 else 0x9800) (x + 7 - wx) (y - wy)
  else
    planeColourAt s (if lcdc.getLsbD 3 then 0x9C00 else 0x9800) ((x + scx) % 256) ((y + scy) % 256)

/-- Sprite entry `i`'s byte `j` (R132): 0 y, 1 x, 2 tile, 3 attribute. -/
def spriteByte (s : State) (i j : Nat) : Byte := memRead s (BitVec.ofNat 16 (0xFE00 + 4 * i + j))

/-- The height of sprites (R1201). -/
def spriteHeight (s : State) : Nat := if (memRead s 0xFF40#16).getLsbD 2 then 16 else 8

/-- Whether sprite `i`'s rows cover line `y` (R1200): `sy - 16 <= y < sy - 16 + h`, as integers. -/
def spriteCovers (s : State) (y i : Nat) : Prop :=
  ((spriteByte s i 0).toNat : Int) - 16 ≤ y ∧
    (y : Int) < ((spriteByte s i 0).toNat : Int) - 16 + spriteHeight s

/-- The colour index sprite `i` has at screen pixel (x, y), 0 where its eight columns do not reach `x`
(R1200, R1201): Y flip by attribute bit 6, X flip by bit 5, an even tile number for 8 x 16. -/
def spriteColour (s : State) (i x y : Nat) : Nat :=
  let attr := spriteByte s i 3
  let h := spriteHeight s
  let top : Int := ((spriteByte s i 0).toNat : Int) - 16
  let down := ((y : Int) - top).toNat
  let row := if attr.getLsbD 6 then h - 1 - down else down
  let t := (spriteByte s i 2).toNat
  let tile := if h = 16 then t - t % 2 else t
  let left : Int := ((spriteByte s i 1).toNat : Int) - 8
  let col := ((x : Int) - left).toNat
  let lo := memRead s (BitVec.ofNat 16 (0x8000 + 16 * tile + 2 * row))
  let hi := memRead s (BitVec.ofNat 16 (0x8000 + 16 * tile + 2 * row + 1))
  if left ≤ x ∧ (x : Int) < left + 8 then colourIndex lo hi (if attr.getLsbD 5 then col else 7 - col)
  else 0

/-- The packed pixel of sprite `i` at (x, y) (R1200): OBP1 or OBP0 by attribute bit 4. -/
def spritePixel (s : State) (i x y : Nat) : BitVec 32 :=
  let pal := if (spriteByte s i 3).getLsbD 4 then memRead s 0xFF49#16 else memRead s 0xFF48#16
  shadePixel s (shadeIndex pal (spriteColour s i x y))

/-- Whether sprite `i` draws screen pixel (x, y) (R1200, R1203). -/
def spriteDraws (s : State) (x y i : Nat) : Bool :=
  decide (spriteColour s i x y ≠ 0) &&
    (!s.cfg.objBgPriority || !(spriteByte s i 3).getLsbD 7 || decide (screenColour s x y = 0))

/-- The sprite whose pixel ends on top at (x, y), among `sel` in OAM order (R1202). -/
def topSprite (s : State) (sel : List Nat) (x y : Nat) : Option Nat :=
  match s.cfg.objOverlap with
  | .laterWins => (sel.filter (spriteDraws s x y)).getLast?
  | .firstWins => (sel.filter (spriteDraws s x y)).head?

end Machine

end Sys2Proof
end

