-- ==== Sys2Proof/Certificates/Slice0/Obligations.lean ====
section
/-!
DEFINITION. The statements for the provers. An instruction statement speaks of `exec`, which runs
with pc already past the instruction's bytes (R22), and says four things: the bytes the instruction
is encoded as, that `exec` answers a next state, what that state holds, and what it leaves alone.
`StepRunsDecoded` carries them to a step.
-/

open Sys2Proof Sys2Proof.Machine

/-! ## Encoding -/

/-- R300, R310: decoding the encoding of any row of the opcode table, with every operand at every
value, gives that row back, and the bytes after it. -/
def Obligations.DecodeEncode : Prop :=
  ∀ (i : Instr) (rest : List Byte), decode (encode i ++ rest) = .ok (i, rest)

/-- R313, R315: bytes that decode to an instruction are that instruction's encoding, so no two byte
sequences mean the same instruction. -/
def Obligations.EncodeDecode : Prop :=
  ∀ (bytes rest : List Byte) (i : Instr),
    decode bytes = .ok (i, rest) → bytes = encode i ++ rest

/-- R320, R321, R322: every first byte decodes; it alone fixes the length (CB means 2); and what it
decodes to is no instruction exactly for the eleven unused bytes. -/
def Obligations.DecodeTotal : Prop :=
  ∀ op : Byte, ∃ n : Nat, 1 ≤ n ∧ n ≤ 3 ∧ (op = 0xCB#8 → n = 2) ∧
    ∀ (x y : Byte) (rest : List Byte), ∃ i : Instr,
      decode (op :: x :: y :: rest) = .ok (i, (x :: y :: rest).drop (n - 1)) ∧ i.length = n ∧
        (i.wellFormed = false ↔
          op ∈ [0xD3#8, 0xDB#8, 0xDD#8, 0xE3#8, 0xE4#8, 0xEB#8, 0xEC#8, 0xED#8, 0xF4#8, 0xFC#8,
            0xFD#8])

/-- Words written out from the encodings of R401, R430, R520, R540, R601, R905, R440, R920, R724,
R802 and R320 decode to the instructions they stand for. -/
def Obligations.DecodeWords : Prop :=
  decode [0b01000001#8] = .ok (.ldBC, []) ∧
  decode [0b00100001#8, 0x21#8, 0x58#8] = .ok (.ldHlD16 0x5821#16, []) ∧
  decode [0b10011110#8] = .ok (.sbcAAtHl, []) ∧
  decode [0b00101100#8] = .ok (.incL, []) ∧
  decode [0b00110011#8] = .ok (.incSp, []) ∧
  decode [0b00110000#8, 0xFC#8] = .ok (.jrNcE8 0xFC#8, []) ∧
  decode [0b11110101#8] = .ok (.pushAf, []) ∧
  decode [0b11101111#8] = .ok (.rst28, []) ∧
  decode [0b11001011#8, 0b00111111#8] = .ok (.srlA, []) ∧
  decode [0b11001011#8, 0b01110110#8] = .ok (.bit6AtHl, []) ∧
  decode [0b11101101#8] = .ok (.illegalED, [])

/-! ## Reset and the invariant -/

/-- R160, R161, R162: the state right after construction with any parameters. That `State.reset` is
the construction with the default parameters, and so has no boot ROM, is the model's choice (log
entry 8), and so is that the I/O bytes are stored as `P_IO_INIT` gives them, unmasked (log entry
16). -/
def Obligations.ResetState : Prop :=
  resetWith Config.default = State.reset ∧
  ∀ c : Config,
    let s := resetWith c
    (c.bootRom = none →
      s.cpu.a = 0x01#8 ∧ s.cpu.f = 0xB0#8 ∧ s.cpu.b = 0x00#8 ∧ s.cpu.c = 0x13#8 ∧
      s.cpu.d = 0x00#8 ∧ s.cpu.e = 0xD8#8 ∧ s.cpu.h = 0x01#8 ∧ s.cpu.l = 0x4D#8 ∧
      s.cpu.sp = 0xFFFE#16 ∧ s.cpu.pc = 0x0100#16) ∧
    (c.bootRom ≠ none →
      s.cpu.a = 0x00#8 ∧ s.cpu.f = 0x00#8 ∧ s.cpu.b = 0x00#8 ∧ s.cpu.c = 0x00#8 ∧
      s.cpu.d = 0x00#8 ∧ s.cpu.e = 0x00#8 ∧ s.cpu.h = 0x00#8 ∧ s.cpu.l = 0x00#8 ∧
      s.cpu.sp = 0x0000#16 ∧ s.cpu.pc = 0x0000#16) ∧
    (s.cpu.ime = false ∧ s.cpu.eiDelay = false ∧ s.cpu.halted = false ∧ s.cpu.stopped = false ∧
      s.cpu.haltBug = false ∧ s.cpu.faulted = false ∧ s.faultLog = []) ∧
    (s.bus.romBank = 1#5 ∧ s.bus.ramBank = 0#2 ∧ s.bus.ramEnable = false) ∧
    (s.bus.bootEnabled = true ↔ c.bootRom ≠ none) ∧
    (s.bus.nRom = 0 ∧ s.bus.nRam = 0 ∧ s.bus.ie = 0x00#8 ∧ ∀ o, s.romAt o = 0xFF#8) ∧
    (∀ (k : Nat) (h : k < 128), s.io k = c.ioInit[k]) ∧
    ((c.ramInit.map Prod.fst).Nodup → ∀ (k : Nat) (v : Byte), (k, v) ∈ c.ramInit →
      isRam k = true → s.memAt k = v) ∧
    (s.ppu.dot = 0 ∧ s.ppu.ly = 0 ∧ s.ppu.mode = .oamSearch ∧ s.ppu.statLine = false ∧
      ∀ k, s.fbAt k = c.fbInit)

/-- The invariant holds right after construction, with any parameters. -/
def Obligations.InvReset : Prop :=
  Inv State.reset ∧ ∀ c : Config, Inv (resetWith c)

/-- Every system step keeps the invariant: memory in canonical form and only where storage exists,
ROM bank 0 never selected, F[3:0] 0, the PPU's counters in range and its mode the one they give. -/
def Obligations.InvStep : Prop :=
  ∀ s t : State, Inv s → step s = .next t → Inv t

/-! ## The step -/

/-- R330, R271, R1270: an awake CPU with no interrupt to take runs the instruction whose bytes are at
pc: `exec` on the state with pc past them, then the EI delay, then the PPU by the machine cycles
returned. -/
def Obligations.StepRunsDecoded : Prop :=
  ∀ (s : State) (i : Instr) (rest : List Byte),
    s.cpu.faulted = false → s.cpu.stopped = false → s.cpu.halted = false →
    s.cpu.haltBug = false →
    (s.cfg.irqDispatch = false ∨ s.cpu.ime = false ∨
      memRead s 0xFFFF#16 &&& memRead s 0xFF0F#16 &&& 0x1F#8 = 0x00#8) →
    decode [memRead s s.cpu.pc, memRead s (s.cpu.pc + 1#16), memRead s (s.cpu.pc + 2#16)] =
      .ok (i, rest) →
    s.cfg.implements i.opcode = true →
    ∃ u v : State,
      exec i { s with
        start := s.cpu.pc
        cpu := { s.cpu with pc := s.cpu.pc + BitVec.ofNat 16 i.length } } = .next u ∧
      v = (if s.cpu.eiDelay = true ∧ u.cpu.eiDelay = true then
        { u with cpu := { u.cpu with ime := true, eiDelay := false } } else u) ∧
      step s = .next (ppuTick (v.mcycles * v.cfg.dotsPerMCycle) v)

/-- R1011, R114: with the HALT bug pending the opcode byte is read twice, as the opcode and as the
first operand byte or CB second byte; pc ends one lower than it would, and the bug is spent. -/
def Obligations.HaltBugFetch : Prop :=
  ∀ (s : State) (i : Instr) (rest : List Byte),
    s.cpu.faulted = false → s.cpu.stopped = false → s.cpu.halted = false →
    s.cpu.haltBug = true →
    (s.cfg.irqDispatch = false ∨ s.cpu.ime = false ∨
      memRead s 0xFFFF#16 &&& memRead s 0xFF0F#16 &&& 0x1F#8 = 0x00#8) →
    decode [memRead s s.cpu.pc, memRead s s.cpu.pc, memRead s (s.cpu.pc + 1#16)] =
      .ok (i, rest) →
    s.cfg.implements i.opcode = true →
    ∃ u v : State,
      exec i { s with
        start := s.cpu.pc
        cpu := { s.cpu with
          haltBug := false
          pc := s.cpu.pc + BitVec.ofNat 16 (i.length - 1) } } = .next u ∧
      v = (if s.cpu.eiDelay = true ∧ u.cpu.eiDelay = true then
        { u with cpu := { u.cpu with ime := true, eiDelay := false } } else u) ∧
      step s = .next (ppuTick (v.mcycles * v.cfg.dotsPerMCycle) v)

/-- R1030, R330: an opcode the build does not implement is logged with the address of its first byte
and skipped; no register, flag or memory byte changes, no machine cycle passes, and `stop` sets
`faulted`. A pending EI takes effect at the end of that step too (R1021), and the HALT bug holds pc
back by one (R1011). -/
def Obligations.UnknownOpcode : Prop :=
  ∀ s : State,
    s.cpu.faulted = false → s.cpu.stopped = false → s.cpu.halted = false →
    (s.cfg.irqDispatch = false ∨ s.cpu.ime = false ∨
      memRead s 0xFFFF#16 &&& memRead s 0xFF0F#16 &&& 0x1F#8 = 0x00#8) →
    let one : Word := if s.cpu.haltBug then 0#16 else 1#16
    let op := memRead s s.cpu.pc
    let op2 := memRead s (s.cpu.pc + one)
    let after := fun (code : Word) (n : Word) => ({ s with
      start := s.cpu.pc
      mcycles := 0
      faultLog := s.faultLog ++ [⟨s.cpu.pc, code⟩]
      cpu := { s.cpu with
        pc := s.cpu.pc + n
        haltBug := false
        ime := s.cpu.ime || s.cpu.eiDelay
        eiDelay := false
        faulted := decide (s.cfg.unknownPolicy = .stops) } } : State)
    (op ∈ [0xD3#8, 0xDB#8, 0xDD#8, 0xE3#8, 0xE4#8, 0xEB#8, 0xEC#8, 0xED#8, 0xF4#8, 0xFC#8, 0xFD#8] →
      cpuStep s = .next (after (0x00#8 ++ op) one)) ∧
    (op ≠ 0xCB#8 → 0x00#8 ++ op ∈ s.cfg.omitted →
      cpuStep s = .next (after (0x00#8 ++ op) one)) ∧
    (op = 0xCB#8 → 0xCB#8 ++ op2 ∈ s.cfg.omitted →
      cpuStep s = .next (after (0xCB#8 ++ op2) (one + 1#16)))

/-- R112, R113, R115, R330, R1134: a faulted CPU does nothing; a stopped or halted one waits one machine
cycle at a time, STOP until IF bit 4, HALT until any source is both enabled and requested, whatever
IME is, and the system step of a waiting CPU ticks the PPU by that cycle; on waking it carries on in
the same step. -/
def Obligations.WaitingSteps : Prop :=
  ∀ s : State,
    let pending := memRead s 0xFFFF#16 &&& memRead s 0xFF0F#16 &&& 0x1F#8
    let joypad := (memRead s 0xFF0F#16).getLsbD 4
    (s.cpu.faulted = true → cpuStep s = .next { s with mcycles := 0 } ∧
      step s = .next (ppuTick 0 { s with mcycles := 0 })) ∧
    (s.cpu.faulted = false → s.cpu.stopped = true → joypad = false →
      cpuStep s = .next { s with mcycles := 1 } ∧
        step s = .next (ppuTick s.cfg.dotsPerMCycle { s with mcycles := 1 })) ∧
    (s.cpu.faulted = false → s.cpu.stopped = false → s.cpu.halted = true → pending = 0x00#8 →
      cpuStep s = .next { s with mcycles := 1 } ∧
        step s = .next (ppuTick s.cfg.dotsPerMCycle { s with mcycles := 1 })) ∧
    (s.cpu.faulted = false → s.cpu.stopped = true → joypad = true →
      cpuStep s = cpuStep { s with cpu := { s.cpu with stopped := false } } ∧
        step s = step { s with cpu := { s.cpu with stopped := false } }) ∧
    (s.cpu.faulted = false → s.cpu.stopped = false → s.cpu.halted = true → pending ≠ 0x00#8 →
      cpuStep s = cpuStep { s with cpu := { s.cpu with halted := false } } ∧
        step s = step { s with cpu := { s.cpu with halted := false } })

/-- R1120, R1110, R1121: with IME set and dispatch enabled, the lowest-numbered source that is both
enabled and requested is taken before any fetch: its request is cleared, IME, a pending EI and the
HALT bug are cleared, the return address (one less under the HALT bug) is pushed high byte first, and
pc goes to 0x0040 + 8k, in 5 machine cycles. Nothing else changes. -/
def Obligations.InterruptTaken : Prop :=
  ∀ (s : State) (k : Nat),
    s.cpu.faulted = false → s.cpu.stopped = false → s.cpu.halted = false →
    s.cfg.irqDispatch = true → s.cpu.ime = true → k < 5 →
    (memRead s 0xFFFF#16).getLsbD k = true → (memRead s 0xFF0F#16).getLsbD k = true →
    (∀ j, j < k →
      (memRead s 0xFFFF#16).getLsbD j = false ∨ (memRead s 0xFF0F#16).getLsbD j = false) →
    let ret := if s.cpu.haltBug then s.cpu.pc - 1#16 else s.cpu.pc
    let acked := s.setIo 0x0F (s.io 0x0F &&& ~~~(1#8 <<< k))
    ∃ t : State, cpuStep s = .next t ∧
      (∀ r : Reg8, t.reg8 r = s.reg8 r) ∧ t.cpu.f = s.cpu.f ∧
      t.cpu.sp = s.cpu.sp - 2#16 ∧ t.cpu.pc.toNat = 0x40 + 8 * k ∧
      t.cpu.ime = false ∧ t.cpu.eiDelay = false ∧ t.cpu.haltBug = false ∧
      t.cpu.halted = false ∧ t.cpu.stopped = false ∧ t.cpu.faulted = false ∧
      t.cfg = s.cfg ∧ t.ppu = s.ppu ∧ t.faultLog = s.faultLog ∧ t.mcycles = 5 ∧
      StoredTwo (s.cpu.sp - 1#16) (ret.extractLsb' 8 8) (s.cpu.sp - 2#16) (ret.extractLsb' 0 8)
        acked t ∧
      (BusOk s.cfg s.bus → memRead acked 0xFF0F#16 = memRead s 0xFF0F#16 &&& ~~~(1#8 <<< k) ∧
        ∀ a : Word, a ≠ 0xFF0F#16 → memRead acked a = memRead s a)

/-- R1021: EI is `FB`, takes one machine cycle and does not write IME. Whatever instruction a step
runs, IME is set at its end if an EI was pending before it and it is not DI; DI leaves IME 0, RETI
sets it, and an EI is pending after the step only if the step ran EI with none pending before. -/
def Obligations.EiDelay : Prop :=
  encode .ei = [0xFB#8] ∧
  ∀ (s : State) (i : Instr) (rest : List Byte),
    s.cpu.faulted = false → s.cpu.stopped = false → s.cpu.halted = false →
    s.cpu.haltBug = false →
    (s.cfg.irqDispatch = false ∨ s.cpu.ime = false ∨
      memRead s 0xFFFF#16 &&& memRead s 0xFF0F#16 &&& 0x1F#8 = 0x00#8) →
    decode [memRead s s.cpu.pc, memRead s (s.cpu.pc + 1#16), memRead s (s.cpu.pc + 2#16)] =
      .ok (i, rest) →
    s.cfg.implements i.opcode = true →
    ∃ t : State, cpuStep s = .next t ∧
      (i ≠ .di → i ≠ .reti → t.cpu.ime = (s.cpu.ime || s.cpu.eiDelay)) ∧
      (i = .di → t.cpu.ime = false) ∧
      (i = .reti → t.cpu.ime = true) ∧
      (t.cpu.eiDelay = true ↔ i = .ei ∧ s.cpu.eiDelay = false) ∧
      (i = .ei → t.mcycles = 1)

/-- R1270, R1100, R125, R1101: whatever the CPU step does, be it an instruction, a wait, an interrupt,
the fallback or a faulted step, the system step is the PPU tick by its machine cycles after it. Every
system step gives a next state, whatever the state. It adds at most one record to the fault log, erases
none, changes no parameter, and leaves a faulted CPU faulted. -/
def Obligations.EveryStepCompletes : Prop :=
  ∀ s : State,
    (∀ t : State, cpuStep s = .next t →
      step s = .next (ppuTick (t.mcycles * t.cfg.dotsPerMCycle) t)) ∧
    ∃ t : State, step s = .next t ∧
      (∃ l, t.faultLog = s.faultLog ++ l ∧ l.length ≤ 1) ∧ t.cfg = s.cfg ∧
      (s.cpu.faulted = true → t.cpu.faulted = true)

/-- R122, R231, R232, R254: no system step changes a byte of ROM, the number of banks or the boot ROM,
and none turns the boot shadow back on. -/
def Obligations.RomAndBootShadow : Prop :=
  ∀ s t : State, step s = .next t →
    t.bus.rom = s.bus.rom ∧ t.bus.nRom = s.bus.nRom ∧ t.bus.nRam = s.bus.nRam ∧
      t.cfg.bootRom = s.cfg.bootRom ∧
      (s.bus.bootEnabled = false → t.bus.bootEnabled = false)

/-- R110-R115, R104: only HALT, STOP, DI, EI, RETI and the unused bytes write a control bit or the
fault log, and no instruction writes the parameters or the PPU. -/
def Obligations.ControlBitWriters : Prop :=
  ∀ (i : Instr) (s : State), ∃ t : State, exec i s = .next t ∧
    t.cfg = s.cfg ∧ t.ppu = s.ppu ∧
    (i ≠ .halt → (∀ n, i ≠ .stop n) → i ≠ .di → i ≠ .ei → i ≠ .reti → i.wellFormed = true →
      t.cpu.ime = s.cpu.ime ∧ t.cpu.eiDelay = s.cpu.eiDelay ∧ t.cpu.halted = s.cpu.halted ∧
      t.cpu.stopped = s.cpu.stopped ∧ t.cpu.haltBug = s.cpu.haltBug ∧
      t.cpu.faulted = s.cpu.faulted ∧ t.faultLog = s.faultLog)

/-- R331, R313, R315: every instruction, on every state, returns the machine cycles the opcode maps
give it: the taken count of a conditional instruction if its condition holds, else the not-taken
count; 0 for an unused byte. -/
def Obligations.ExecCycles : Prop :=
  ∀ (i : Instr) (s : State), ∃ t : State, exec i s = .next t ∧
    t.mcycles = tableCycles i s.cpu.f

/-- R350, R102: every instruction changes the flags only as its row's flag column says, and keeps
F[3:0] at 0. -/
def Obligations.ExecFlags : Prop :=
  ∀ (i : Instr) (s : State), ∃ t : State, exec i s = .next t ∧
    (flagColumn i).z.allows s.fZ t.fZ ∧ (flagColumn i).n.allows s.fN t.fN ∧
    (flagColumn i).h.allows s.fH t.fH ∧ (flagColumn i).c.allows s.fCY t.fCY ∧
    (s.cpu.f &&& 0x0F#8 = 0x00#8 → t.cpu.f &&& 0x0F#8 = 0x00#8)

/-! ## Registers and memory -/

/-- R101: a pair is its high register times 256 plus its low register; writing a pair writes those two
registers and no other. R102: a write to F keeps its bits 3..0 at 0, so writing AF stores the low byte
masked with 0xF0 and AF reads back the value masked with 0xFFF0. -/
def Obligations.PairViews : Prop :=
  ∀ (s : State) (v : Word),
    (s.af.toNat = s.cpu.a.toNat * 256 + s.cpu.f.toNat ∧
      s.bc.toNat = s.cpu.b.toNat * 256 + s.cpu.c.toNat ∧
      s.de.toNat = s.cpu.d.toNat * 256 + s.cpu.e.toNat ∧
      s.hl.toNat = s.cpu.h.toNat * 256 + s.cpu.l.toNat) ∧
    (s.setReg16 .bc v).reg16 .bc = v ∧
    s.setReg16 .bc v = { s with cpu := { s.cpu with b := v.extractLsb' 8 8, c := v.extractLsb' 0 8 } } ∧
    (s.setReg16 .de v).reg16 .de = v ∧
    s.setReg16 .de v = { s with cpu := { s.cpu with d := v.extractLsb' 8 8, e := v.extractLsb' 0 8 } } ∧
    (s.setReg16 .hl v).reg16 .hl = v ∧
    s.setReg16 .hl v = { s with cpu := { s.cpu with h := v.extractLsb' 8 8, l := v.extractLsb' 0 8 } } ∧
    (s.setReg16Stack .af v).reg16Stack .af = v &&& 0xFFF0#16 ∧
    s.setReg16Stack .af v =
      { s with cpu := { s.cpu with a := v.extractLsb' 8 8, f := v.extractLsb' 0 8 &&& 0xF0#8 } }

/-- R201, R212: 0xFEA0-0xFEFF reads 0xFF and ignores writes; an echo address reads and writes the byte
0x2000 below it. R210, R211, R213: the boot shadow, the ROM windows and external RAM read what they
show, and what is missing or disabled reads 0xFF. R231: a write to external RAM that is disabled, or
whose bank is absent, does nothing. -/
def Obligations.AddressMap : Prop :=
  ∀ (s : State) (a : Word) (v : Byte),
    (0xFEA0 ≤ a.toNat → a.toNat ≤ 0xFEFF → memRead s a = 0xFF#8 ∧ memWrite a v s = s) ∧
    (0xE000 ≤ a.toNat → a.toNat ≤ 0xFDFF →
      memRead s a = memRead s (a - 0x2000#16) ∧ memWrite a v s = memWrite (a - 0x2000#16) v s) ∧
    (s.bus.bootEnabled = true → ∀ rom : Vector Byte 256, s.cfg.bootRom = some rom →
      ∀ h : a.toNat < 256, memRead s a = rom[a.toNat]) ∧
    (a.toNat < 0x4000 → s.bus.bootEnabled = false ∨ 0xFF < a.toNat →
      memRead s a = s.romAt a.toNat) ∧
    (0x4000 ≤ a.toNat → a.toNat < 0x8000 → s.bus.romBank ≠ 0#5 →
      s.bus.romBank.toNat ≤ s.bus.nRom →
      memRead s a = s.romAt (0x4000 * s.bus.romBank.toNat + (a.toNat - 0x4000))) ∧
    (0x4000 ≤ a.toNat → a.toNat < 0x8000 → s.bus.nRom < s.bus.romBank.toNat →
      memRead s a = 0xFF#8) ∧
    (0xA000 ≤ a.toNat → a.toNat < 0xC000 → s.bus.ramEnable = true →
      s.bus.ramBank.toNat < s.bus.nRam →
      memRead s a = s.extAt s.bus.ramBank.toNat (a.toNat - 0xA000)) ∧
    (0xA000 ≤ a.toNat → a.toNat < 0xC000 →
      s.bus.ramEnable = false ∨ s.bus.nRam ≤ s.bus.ramBank.toNat →
      memRead s a = 0xFF#8 ∧ memWrite a v s = s)

/-- R241, R242, R243, R244, R245: what a write to each ROM range does, and that it does nothing else. -/
def Obligations.BankingWrites : Prop :=
  ∀ (s : State) (a : Word) (v : Byte),
    (a.toNat < 0x2000 → memWrite a v s =
      { s with bus := { s.bus with ramEnable := decide (v.toNat % 16 = 0x0A) } }) ∧
    (0x2000 ≤ a.toNat → a.toNat < 0x4000 →
      (memWrite a v s).bus.romBank.toNat = (if v.toNat % 32 = 0 then 1 else v.toNat % 32) ∧
      memWrite a v s =
        { s with bus := { s.bus with romBank := (memWrite a v s).bus.romBank } }) ∧
    (0x4000 ≤ a.toNat → a.toNat < 0x6000 →
      (memWrite a v s).bus.ramBank.toNat = v.toNat % 4 ∧
      memWrite a v s =
        { s with bus := { s.bus with ramBank := (memWrite a v s).bus.ramBank } }) ∧
    (0x6000 ≤ a.toNat → a.toNat < 0x8000 → memWrite a v s = s)

/-- R142, R144, R150, R151, R152, R234: STAT reads its mode and coincidence bits live and stores bits 6..3 alone; LY reads the
scanline and ignores writes. IF stores five bits and reads the rest as 1; IE stores all eight; BOOT
reads 0xFF. -/
def Obligations.IoRegisters : Prop :=
  ∀ (s : State) (v : Byte), BusOk s.cfg s.bus →
    (memRead s 0xFF41#16 =
      0x80#8 ||| (s.io 0x41 &&& 0x78#8) |||
        (if s.ppu.ly = (memRead s 0xFF45#16).toNat then 0x04#8 else 0x00#8) |||
        (match s.ppu.mode with
          | .hBlank => 0x00#8
          | .vBlank => 0x01#8
          | .oamSearch => 0x02#8
          | .drawing => 0x03#8)) ∧
    memWrite 0xFF41#16 v s = s.setIo 0x41 ((s.io 0x41 &&& 0x87#8) ||| (v &&& 0x78#8)) ∧
    (memWrite 0xFF41#16 v s).io 0x41 = (s.io 0x41 &&& 0x87#8) ||| (v &&& 0x78#8) ∧
    memRead s 0xFF44#16 = BitVec.ofNat 8 s.ppu.ly ∧ memWrite 0xFF44#16 v s = s ∧
    memRead (memWrite 0xFF0F#16 v s) 0xFF0F#16 = 0xE0#8 ||| (v &&& 0x1F#8) ∧
    memRead (memWrite 0xFFFF#16 v s) 0xFFFF#16 = v ∧
    memRead s 0xFF50#16 = 0xFF#8

/-- R230, R234, R263, R270: on a bus that is as it should be, a write to plain storage is read back at
every address of that byte and at no other; and a write at any address leaves every address out of
its reach reading as before. -/
def Obligations.WriteReach : Prop :=
  ∀ (s : State) (a : Word) (v : Byte), BusOk s.cfg s.bus →
    (∀ p, plainPlace s a = some p → ∀ b : Word,
      memRead (memWrite a v s) b = if plainPlace s b = some p then v else memRead s b) ∧
    (storesByte s a = true → memRead (memWrite a v s) a = v) ∧
    (∀ b : Word, writeReach a b = false → memRead (memWrite a v s) b = memRead s b)

/-- R233: a write of v to DMA stores v and, when the copy is instant, fills OAM from the 160 bytes at
v * 256, read as they are after v is stored; otherwise OAM is left alone. -/
def Obligations.OamDma : Prop :=
  ∀ (s : State) (v : Byte), BusOk s.cfg s.bus →
    memRead (memWrite 0xFF46#16 v s) 0xFF46#16 = v ∧
    ∀ i : Nat, i < 160 →
      memRead (memWrite 0xFF46#16 v s) (BitVec.ofNat 16 (0xFE00 + i)) =
        if s.cfg.oamDma = .instant then
          (if v.toNat * 256 + i = 0xFF46 then v else memRead s (BitVec.ofNat 16 (v.toNat * 256 + i)))
        else memRead s (BitVec.ofNat 16 (0xFE00 + i))

/-- R232: a nonzero write to BOOT ends the boot shadow, any other write there does nothing, no write
anywhere starts it again, and with it off the first 256 addresses read the cartridge. -/
def Obligations.BootDisable : Prop :=
  ∀ (s : State) (v : Byte),
    (v ≠ 0x00#8 → s.bus.bootEnabled = true →
      memWrite 0xFF50#16 v s = { s with bus := { s.bus with bootEnabled := false } } ∧
      ∀ a : Word, a.toNat < 256 → memRead (memWrite 0xFF50#16 v s) a = s.romAt a.toNat) ∧
    (v = 0x00#8 ∨ s.bus.bootEnabled = false → memWrite 0xFF50#16 v s = s) ∧
    (s.bus.bootEnabled = false → ∀ a : Word, (memWrite a v s).bus.bootEnabled = false)

/-- R250, R251, R252, R253: loading an image fills the ROM with its bytes and 0xFF past its end,
counts the ROM banks, takes the RAM bank count from byte 0x0149, gives each RAM bank its initial bytes,
and changes nothing else; an image that cannot be read changes nothing and is an error. That such an
image is `none` and the error the fault `ioError` is the model's form (log entry 21), and so is that the
first pair of the table for a header byte counts (log entry 20). -/
def Obligations.LoadRom : Prop :=
  ∀ s : State,
    loadRom none s = .fault .ioError ∧
    ∀ image : List Byte, ∃ t : State, loadRom (some image) s = .next t ∧
      (∀ o, t.romAt o = image.getD o 0xFF#8) ∧
      (t.bus.nRom : Int) = max 0 (((image.length : Int) - 16384 + 16383) / 16384) ∧
      (image.length ≤ 0x0149 → t.bus.nRam = 0) ∧
      (∀ h : 0x0149 < image.length, t.bus.nRam =
        match s.cfg.ramBankTable.find? fun p => p.1 = image[0x0149] with
        | some p => p.2
        | none => 0) ∧
      ((s.cfg.extRamInit.map Prod.fst).Nodup → ∀ (k : Nat) (v : Byte),
        (k, v) ∈ s.cfg.extRamInit → k < 8192 * t.bus.nRam → t.extAt (k / 8192) (k % 8192) = v) ∧
      t = { s with bus := { s.bus with
        rom := t.bus.rom, nRom := t.bus.nRom, nRam := t.bus.nRam, ext := t.bus.ext } } ∧
      (Inv s → Inv t)

/-- R1280, R1105, R1106: the host requests timer, serial and joypad as IF bits 2, 3 and 4, and its
reads, writes and ticks are the CPU's reads and writes and the PPU's ticks. A request changes no other
bit and no other byte. -/
def Obligations.HostRequests : Prop :=
  ∀ (s : State) (k : HostIrq) (a : Word) (v : Byte) (d : Nat),
    hostRead a s = memRead s a ∧ hostWrite a v s = memWrite a v s ∧ hostTick d s = ppuTick d s ∧
    hostFaultLog s = s.faultLog ∧
    (∀ x y, x < 160 → y < 144 → (getFramebuffer s).getD (y * 160 + x) 0#32 = pixelAt s x y) ∧
    (getFramebuffer s).length = 160 * 144 ∧
    (let bit := match k with
      | .timer => 2
      | .serial => 3
      | .joypad => 4
     let t := requestInterrupt k s
     t = { s with bus := { s.bus with mem := t.bus.mem } } ∧
     (BusOk s.cfg s.bus →
       (memRead t 0xFF0F#16).getLsbD bit = true ∧
       (∀ j, j ≠ bit → (memRead t 0xFF0F#16).getLsbD j = (memRead s 0xFF0F#16).getLsbD j) ∧
       ∀ b : Word, b ≠ 0xFF0F#16 → memRead t b = memRead s b))

/-! ## The PPU -/

/-- R1155: with the LCD off a tick does nothing. R1150, R1151, R1152: with it on, the dot counter and the
scanline move by whole lines, keeping the overrun, the scanline wraps after 153, and the mode is the
one R1152 gives their new values; so a tick of one frame, 70224 dots, brings both back (R1157). The
closed form `(dot + d) / 456` of the loop of R1150 is the model's reading (log entry 13). -/
def Obligations.PpuCounters : Prop :=
  ∀ (s : State) (d : Nat),
    ((memRead s 0xFF40#16).getLsbD 7 = false → ppuTick d s = s) ∧
    ((memRead s 0xFF40#16).getLsbD 7 = true → s.ppu.dot < 456 → s.ppu.ly < 154 →
      let t := ppuTick d s
      t.ppu.dot = (s.ppu.dot + d) % 456 ∧
      t.ppu.ly = (s.ppu.ly + (s.ppu.dot + d) / 456) % 154 ∧
      (144 ≤ t.ppu.ly → t.ppu.mode = .vBlank) ∧
      (t.ppu.ly < 144 → t.ppu.dot < 80 → t.ppu.mode = .oamSearch) ∧
      (t.ppu.ly < 144 → 80 ≤ t.ppu.dot → t.ppu.dot < 252 → t.ppu.mode = .drawing) ∧
      (t.ppu.ly < 144 → 252 ≤ t.ppu.dot → t.ppu.mode = .hBlank) ∧
      (d = 70224 → t.ppu.dot = s.ppu.dot ∧ t.ppu.ly = s.ppu.ly))

/-- R1150, R1151, R1160, R1161, R1162: a tick sets IF bit 0 exactly when it enters line 144. After it the
STAT line is the OR of its four selected sources, evaluated once with the tick's final scanline and
mode, and IF bit 1 is set exactly on its rising edge. Neither bit is ever cleared. That a tick crosses
`(dot + d) / 456` line boundaries is the model's reading of the loop of R1150 (log entry 13). -/
def Obligations.PpuRequests : Prop :=
  ∀ (s : State) (d : Nat), Inv s → (memRead s 0xFF40#16).getLsbD 7 = true →
    let t := ppuTick d s
    let sel := memRead s 0xFF41#16
    ((memRead t 0xFF0F#16).getLsbD 0 = true ↔
      (memRead s 0xFF0F#16).getLsbD 0 = true ∨
        ∃ k, 1 ≤ k ∧ k ≤ (s.ppu.dot + d) / 456 ∧ (s.ppu.ly + k) % 154 = 144) ∧
    (t.ppu.statLine = true ↔
      (sel.getLsbD 6 = true ∧ t.ppu.ly = (memRead s 0xFF45#16).toNat) ∨
      (sel.getLsbD 3 = true ∧ t.ppu.mode = .hBlank) ∨
      (sel.getLsbD 4 = true ∧ t.ppu.mode = .vBlank) ∨
      (sel.getLsbD 5 = true ∧ t.ppu.mode = .oamSearch)) ∧
    ((memRead t 0xFF0F#16).getLsbD 1 = true ↔
      (memRead s 0xFF0F#16).getLsbD 1 = true ∨ (t.ppu.statLine = true ∧ s.ppu.statLine = false))

/-- R202, R1150: a tick changes no register, no control bit, no parameter, no log record, no ROM or
external RAM, and no memory byte but IF (bits 0 and 1 alone), LY and STAT. -/
def Obligations.PpuTickKeeps : Prop :=
  ∀ (s : State) (d : Nat),
    (ppuTick d s).cpu = s.cpu ∧ (ppuTick d s).cfg = s.cfg ∧
    (ppuTick d s).faultLog = s.faultLog ∧ (ppuTick d s).mcycles = s.mcycles ∧
    (ppuTick d s).bus = { s.bus with mem := (ppuTick d s).bus.mem } ∧
    (BusOk s.cfg s.bus →
      (∀ j, 2 ≤ j →
        (memRead (ppuTick d s) 0xFF0F#16).getLsbD j = (memRead s 0xFF0F#16).getLsbD j) ∧
      ∀ a : Word, a ≠ 0xFF0F#16 → a ≠ 0xFF41#16 → a ≠ 0xFF44#16 →
        memRead (ppuTick d s) a = memRead s a)

/-- R1150, R1151, R1158, R1159: a tick crosses `(dot + d) / 456` line boundaries (log entry 13), and
renders the visible lines it enters in that order, from the memory as it is then. So the row of each
line entered is drawn; every other row, and every row on a tick that crosses no boundary or only into
VBlank, keeps its pixels. -/
def Obligations.LineEntryDraws : Prop :=
  ∀ (s : State) (d x y : Nat), Inv s → (memRead s 0xFF40#16).getLsbD 7 = true → x < 160 → y < 144 →
    let entered := (List.range ((s.ppu.dot + d) / 456)).map fun k => (s.ppu.ly + 1 + k) % 154
    pixelAt (ppuTick d s) x y =
      pixelAt ((entered.filter (· < 144)).foldl (fun t line => renderLine line t) s) x y ∧
    (y ∈ entered → pixelAt (ppuTick d s) x y = pixelAt (renderLine y s) x y) ∧
    (y ∉ entered → pixelAt (ppuTick d s) x y = pixelAt s x y)

/-- R1180, R1181, R1182, R1183, R1191, R147: with sprites off, rendering line y draws each of its 160
pixels as the shade BGP gives the colour of the background or window there, and no pixel of another
row; and it changes nothing but the framebuffer. -/
def Obligations.RenderBackground : Prop :=
  ∀ (s : State) (y : Nat), Inv s → y < 144 →
    renderLine y s = { s with ppu := { s.ppu with fb := (renderLine y s).ppu.fb } } ∧
    (∀ x y', x < 160 → y' < 144 → y' ≠ y → pixelAt (renderLine y s) x y' = pixelAt s x y') ∧
    ((memRead s 0xFF40#16).getLsbD 1 = false → ∀ x, x < 160 →
      pixelAt (renderLine y s) x y =
        shadePixel s (shadeIndex (memRead s 0xFF47#16) (screenColour s x y)))

/-- R1200, R1201, R1202, R1203: with sprites on, each pixel of a rendered row is that of the topmost
sprite that draws it, among the first ten in OAM whose rows cover the line, or else the background's;
so a sprite's colour 0 never covers what is behind it. -/
def Obligations.RenderSprites : Prop :=
  ∀ (s : State) (y x : Nat), Inv s → y < 144 → x < 160 →
    (memRead s 0xFF40#16).getLsbD 1 = true →
    pixelAt (renderLine y s) x y =
      match topSprite s (objSelect s y) x y with
      | some i => spritePixel s i x y
      | none => shadePixel s (shadeIndex (memRead s 0xFF47#16) (screenColour s x y))

/-- R1200: the sprites of a line are the first ten entries of OAM whose rows cover it: at most ten, in
ascending order, each covering; and an entry that covers but is left out comes after ten that do. -/
def Obligations.SpriteLimit : Prop :=
  ∀ (s : State) (y : Nat),
    (objSelect s y).length ≤ 10 ∧ (objSelect s y).Pairwise (· < ·) ∧
    (∀ i ∈ objSelect s y, i < 40 ∧ spriteCovers s y i) ∧
    (∀ i, i < 40 → spriteCovers s y i → i ∉ objSelect s y →
      (objSelect s y).length = 10 ∧ ∀ j ∈ objSelect s y, j < i)

/-! ## Loads, stores and the stack -/

/-- R401, R402, R403: LD into a register from a register, an immediate, or memory at the old HL. -/
def Obligations.LoadRegister : Prop :=
  ∀ (s : State) (r : Reg8) (x : Operand8) (n : Byte),
    (encode (.ld (.reg r) x) = [0b01#2 ++ r.code ++ x.code] ∧
      ∃ t : State, exec (.ld (.reg r) x) s = .next t ∧ t.reg8 r = x.value s ∧
        RegistersOnly [r] s t ∧ t.cpu.f = s.cpu.f ∧ t.mcycles = x.count 1 2) ∧
    (encode (.ldImm8 (.reg r) n) = [0b00#2 ++ r.code ++ 0b110#3, n] ∧
      ∃ t : State, exec (.ldImm8 (.reg r) n) s = .next t ∧ t.reg8 r = n ∧
        RegistersOnly [r] s t ∧ t.cpu.f = s.cpu.f ∧ t.mcycles = 2)

/-- R404, R405: LD to memory at HL from a register or an immediate; where `LD (HL),(HL)` would stand is
HALT. -/
def Obligations.StoreAtHl : Prop :=
  ∀ (s : State) (r : Reg8) (n : Byte),
    Instr.ld .atHl .atHl = .halt ∧
    (encode (.ld .atHl (.reg r)) = [0b01110#5 ++ r.code] ∧
      ∃ t : State, exec (.ld .atHl (.reg r)) s = .next t ∧ Stored s.hl (s.reg8 r) s t ∧
        KeptSpPc [] s t ∧ t.cpu.f = s.cpu.f ∧ t.mcycles = 2) ∧
    (encode (.ldImm8 .atHl n) = [0x36#8, n] ∧
      ∃ t : State, exec (.ldImm8 .atHl n) s = .next t ∧ Stored s.hl n s t ∧
        KeptSpPc [] s t ∧ t.cpu.f = s.cpu.f ∧ t.mcycles = 3)

/-- R406, R407, R410, R411, R413: the loads of A, each with its address, encoding and cycles. -/
def Obligations.LoadAccumulator : Prop :=
  ∀ (s : State) (n lo hi : Byte),
    ∀ row ∈ ([(.ldAAtBc, s.bc, [0x0A#8], 2), (.ldAAtDe, s.de, [0x1A#8], 2),
        (.ldAAtA16 (hi ++ lo), hi ++ lo, [0xFA#8, lo, hi], 4),
        (.ldhAAtA8 n, 0xFF#8 ++ n, [0xF0#8, n], 3),
        (.ldAAtC, 0xFF#8 ++ s.cpu.c, [0xF2#8], 2)] : List (Instr × Word × List Byte × Nat)),
      encode row.1 = row.2.2.1 ∧
      ∃ t : State, exec row.1 s = .next t ∧ t.cpu.a = memRead s row.2.1 ∧
        RegistersOnly [.a] s t ∧ t.cpu.f = s.cpu.f ∧ t.mcycles = row.2.2.2

/-- R408, R409, R412, R414, R415: the stores of A, each with its address, encoding and cycles. -/
def Obligations.StoreAccumulator : Prop :=
  ∀ (s : State) (n lo hi : Byte),
    ∀ row ∈ ([(.ldAtBcA, s.bc, [0x02#8], 2), (.ldAtDeA, s.de, [0x12#8], 2),
        (.ldAtA16A (hi ++ lo), hi ++ lo, [0xEA#8, lo, hi], 4),
        (.ldhAtA8A n, 0xFF#8 ++ n, [0xE0#8, n], 3),
        (.ldAtCA, 0xFF#8 ++ s.cpu.c, [0xE2#8], 2)] : List (Instr × Word × List Byte × Nat)),
      encode row.1 = row.2.2.1 ∧
      ∃ t : State, exec row.1 s = .next t ∧ Stored row.2.1 s.cpu.a s t ∧
        KeptSpPc [] s t ∧ t.cpu.f = s.cpu.f ∧ t.mcycles = row.2.2.2

/-- R416, R417, R418, R419: the loads and stores of A at HL that then step HL by one, modulo 2^16. -/
def Obligations.HlStep : Prop :=
  ∀ s : State,
    (∀ row ∈ ([(.ldAtHlIncA, [0x22#8], 1#16), (.ldAtHlDecA, [0x32#8], 0xFFFF#16)] :
        List (Instr × List Byte × Word)),
      encode row.1 = row.2.1 ∧
      ∃ t : State, exec row.1 s = .next t ∧ Stored s.hl s.cpu.a s t ∧
        t.hl = s.hl + row.2.2 ∧ KeptSpPc [.h, .l] s t ∧ t.cpu.f = s.cpu.f ∧ t.mcycles = 2) ∧
    (∀ row ∈ ([(.ldAAtHlInc, [0x2A#8], 1#16), (.ldAAtHlDec, [0x3A#8], 0xFFFF#16)] :
        List (Instr × List Byte × Word)),
      encode row.1 = row.2.1 ∧
      ∃ t : State, exec row.1 s = .next t ∧ t.cpu.a = memRead s s.hl ∧
        t.hl = s.hl + row.2.2 ∧ RegistersOnly [.a, .h, .l] s t ∧ t.cpu.f = s.cpu.f ∧
        t.mcycles = 2)

/-- R430, R431, R432: a 16-bit immediate, low byte first, into a pair or SP; HL into SP; SP to memory,
low byte first, at a16 and the address after it. -/
def Obligations.LoadPair : Prop :=
  ∀ (s : State) (rr : Reg16) (lo hi : Byte),
    (encode (.ldImm16 rr (hi ++ lo)) = [0b00#2 ++ rr.code ++ 0b0001#4, lo, hi] ∧
      ∃ t : State, exec (.ldImm16 rr (hi ++ lo)) s = .next t ∧ t.reg16 rr = hi ++ lo ∧
        Kept rr.parts s t ∧ (rr ≠ .sp → t.cpu.sp = s.cpu.sp) ∧ t.cpu.pc = s.cpu.pc ∧
        SameMemory s t ∧ t.cpu.f = s.cpu.f ∧ t.mcycles = 3) ∧
    (encode .ldSpHl = [0xF9#8] ∧
      ∃ t : State, exec .ldSpHl s = .next t ∧ t.cpu.sp = s.hl ∧
        Kept [] s t ∧ t.cpu.pc = s.cpu.pc ∧ SameMemory s t ∧ t.cpu.f = s.cpu.f ∧ t.mcycles = 2) ∧
    (encode (.ldAtA16Sp (hi ++ lo)) = [0x08#8, lo, hi] ∧
      ∃ t : State, exec (.ldAtA16Sp (hi ++ lo)) s = .next t ∧
        StoredTwo (hi ++ lo) (s.cpu.sp.extractLsb' 0 8) ((hi ++ lo) + 1#16)
          (s.cpu.sp.extractLsb' 8 8) s t ∧
        KeptSpPc [] s t ∧ t.cpu.f = s.cpu.f ∧ t.mcycles = 5)

/-- R440, R441, R442: PUSH stores the pair's high byte at SP - 1 and then its low byte at SP - 2; POP
reads the low byte at SP and the high byte at SP + 1; POP AF keeps F[3:0] at 0 and writes all four
flags. -/
def Obligations.PushAndPop : Prop :=
  ∀ (s : State) (qq : Reg16Stack),
    (encode (.push qq) = [0b11#2 ++ qq.code ++ 0b0101#4] ∧
      ∃ t : State, exec (.push qq) s = .next t ∧
        StoredTwo (s.cpu.sp - 1#16) ((s.reg16Stack qq).extractLsb' 8 8) (s.cpu.sp - 2#16)
          ((s.reg16Stack qq).extractLsb' 0 8) s t ∧
        t.cpu.sp = s.cpu.sp - 2#16 ∧ Kept [] s t ∧ t.cpu.pc = s.cpu.pc ∧ t.cpu.f = s.cpu.f ∧
        t.mcycles = 4) ∧
    (encode (.pop qq) = [0b11#2 ++ qq.code ++ 0b0001#4] ∧
      ∃ t : State, exec (.pop qq) s = .next t ∧
        (qq ≠ .af →
          t.reg16Stack qq = memRead s (s.cpu.sp + 1#16) ++ memRead s s.cpu.sp ∧
          t.cpu.f = s.cpu.f) ∧
        (qq = .af → t.cpu.a = memRead s (s.cpu.sp + 1#16) ∧
          HasFlags ((memRead s s.cpu.sp).getLsbD 7) ((memRead s s.cpu.sp).getLsbD 6)
            ((memRead s s.cpu.sp).getLsbD 5) ((memRead s s.cpu.sp).getLsbD 4) t) ∧
        t.cpu.sp = s.cpu.sp + 2#16 ∧ Kept qq.parts s t ∧ t.cpu.pc = s.cpu.pc ∧ SameMemory s t ∧
        t.mcycles = 3)

/-- R440, R442, C9: PUSH and then POP of the same pair restores it, every other register, F and SP,
where both stack bytes are storage. -/
def Obligations.PushThenPop : Prop :=
  ∀ (s : State) (qq : Reg16Stack), BusOk s.cfg s.bus → s.cpu.f &&& 0x0F#8 = 0x00#8 →
    storesByte s (s.cpu.sp - 1#16) = true → storesByte s (s.cpu.sp - 2#16) = true →
    ∃ t u : State, exec (.push qq) s = .next t ∧ exec (.pop qq) t = .next u ∧ u.cpu = s.cpu

/-! ## 8-bit arithmetic and logic -/

/-- R510-R515: ADD and ADC, in the register, memory and immediate forms. -/
def Obligations.AddAndAdc : Prop :=
  ∀ (s : State) (x : Operand8) (n : Byte),
    (encode (.alu .add x) = [0b10000#5 ++ x.code] ∧
      ∃ t : State, exec (.alu .add x) s = .next t ∧ SumToA (x.value s) 0 s t ∧
        RegistersOnly [.a] s t ∧ t.mcycles = x.count 1 2) ∧
    (encode (.aluImm .add n) = [0xC6#8, n] ∧
      ∃ t : State, exec (.aluImm .add n) s = .next t ∧ SumToA n 0 s t ∧
        RegistersOnly [.a] s t ∧ t.mcycles = 2) ∧
    (encode (.alu .adc x) = [0b10001#5 ++ x.code] ∧
      ∃ t : State, exec (.alu .adc x) s = .next t ∧ SumToA (x.value s) s.fCY.toNat s t ∧
        RegistersOnly [.a] s t ∧ t.mcycles = x.count 1 2) ∧
    (encode (.aluImm .adc n) = [0xCE#8, n] ∧
      ∃ t : State, exec (.aluImm .adc n) s = .next t ∧ SumToA n s.fCY.toNat s t ∧
        RegistersOnly [.a] s t ∧ t.mcycles = 2)

/-- R516-R521, R531-R533: SUB, SBC and CP, in the register, memory and immediate forms; CP writes no
register. -/
def Obligations.Subtract : Prop :=
  ∀ (s : State) (x : Operand8) (n : Byte),
    (encode (.alu .sub x) = [0b10010#5 ++ x.code] ∧
      ∃ t : State, exec (.alu .sub x) s = .next t ∧ DifferenceToA (x.value s) 0 s t ∧
        RegistersOnly [.a] s t ∧ t.mcycles = x.count 1 2) ∧
    (encode (.aluImm .sub n) = [0xD6#8, n] ∧
      ∃ t : State, exec (.aluImm .sub n) s = .next t ∧ DifferenceToA n 0 s t ∧
        RegistersOnly [.a] s t ∧ t.mcycles = 2) ∧
    (encode (.alu .sbc x) = [0b10011#5 ++ x.code] ∧
      ∃ t : State, exec (.alu .sbc x) s = .next t ∧ DifferenceToA (x.value s) s.fCY.toNat s t ∧
        RegistersOnly [.a] s t ∧ t.mcycles = x.count 1 2) ∧
    (encode (.aluImm .sbc n) = [0xDE#8, n] ∧
      ∃ t : State, exec (.aluImm .sbc n) s = .next t ∧ DifferenceToA n s.fCY.toNat s t ∧
        RegistersOnly [.a] s t ∧ t.mcycles = 2) ∧
    (encode (.alu .cp x) = [0b10111#5 ++ x.code] ∧
      ∃ t : State, exec (.alu .cp x) s = .next t ∧ DifferenceFlags (x.value s) 0 s t ∧
        RegistersOnly [] s t ∧ t.mcycles = x.count 1 2) ∧
    (encode (.aluImm .cp n) = [0xFE#8, n] ∧
      ∃ t : State, exec (.aluImm .cp n) s = .next t ∧ DifferenceFlags n 0 s t ∧
        RegistersOnly [] s t ∧ t.mcycles = 2)

/-- R522-R530: AND, XOR and OR bit by bit, in their three forms; Z from the result, H set by AND alone,
N and CY clear. -/
def Obligations.Logic : Prop :=
  ∀ (s : State) (x : Operand8) (n : Byte),
    ∀ row ∈ ([(.and, 0b100#3, and, true), (.xor, 0b101#3, xor, false), (.or, 0b110#3, or, false)] :
        List (AluOp × BitVec 3 × (Bool → Bool → Bool) × Bool)),
      (encode (.alu row.1 x) = [0b10#2 ++ row.2.1 ++ x.code] ∧
        ∃ t : State, exec (.alu row.1 x) s = .next t ∧
          (∀ k, k < 8 → t.cpu.a.getLsbD k =
            row.2.2.1 (s.cpu.a.getLsbD k) ((x.value s).getLsbD k)) ∧
          HasFlags (decide (t.cpu.a = 0x00#8)) false row.2.2.2 false t ∧
          RegistersOnly [.a] s t ∧ t.mcycles = x.count 1 2) ∧
      (encode (.aluImm row.1 n) = [0b11#2 ++ row.2.1 ++ 0b110#3, n] ∧
        ∃ t : State, exec (.aluImm row.1 n) s = .next t ∧
          (∀ k, k < 8 → t.cpu.a.getLsbD k = row.2.2.1 (s.cpu.a.getLsbD k) (n.getLsbD k)) ∧
          HasFlags (decide (t.cpu.a = 0x00#8)) false row.2.2.2 false t ∧
          RegistersOnly [.a] s t ∧ t.mcycles = 2)

/-- R540, R541, R542, R543: INC and DEC of a register or of the byte at HL; CY is kept. -/
def Obligations.IncDec : Prop :=
  ∀ (s : State) (x : Operand8),
    (encode (.inc8 x) = [0b00#2 ++ x.code ++ 0b100#3] ∧
      ∃ t : State, exec (.inc8 x) s = .next t ∧ Writes x (x.value s + 1#8) s t ∧
        HasFlags (decide ((x.value s).toNat = 255)) false (decide ((x.value s).toNat % 16 = 15))
          s.fCY t ∧
        t.mcycles = x.count 1 3) ∧
    (encode (.dec8 x) = [0b00#2 ++ x.code ++ 0b101#3] ∧
      ∃ t : State, exec (.dec8 x) s = .next t ∧ Writes x (x.value s - 1#8) s t ∧
        HasFlags (decide ((x.value s).toNat = 1)) true (decide ((x.value s).toNat % 16 = 0))
          s.fCY t ∧
        t.mcycles = x.count 1 3)

/-- R550: DAA, as integers modulo 256: after an addition it adds 0x60 and 6 as the carries and digits
ask, after a subtraction it takes them away as the borrows ask; N is kept and H cleared. -/
def Obligations.DaaAdjustsA : Prop :=
  ∀ s : State,
    let a := s.cpu.a.toNat
    encode .daa = [0x27#8] ∧
    ∃ t : State, exec .daa s = .next t ∧ RegistersOnly [.a] s t ∧ t.mcycles = 1 ∧
      (s.fN = false →
        t.cpu.a.toNat = (a + (if s.fCY = true ∨ 0x99 < a then 0x60 else 0) +
          (if s.fH = true ∨ 9 < a % 16 then 6 else 0)) % 256 ∧
        HasFlags (decide (t.cpu.a = 0x00#8)) false false (s.fCY || decide (0x99 < a)) t) ∧
      (s.fN = true →
        (t.cpu.a.toNat : Int) = ((a : Int) - (if s.fCY = true then 0x60 else 0) -
          (if s.fH = true then 6 else 0)) % 256 ∧
        HasFlags (decide (t.cpu.a = 0x00#8)) true false s.fCY t)

/-- R550, R512: two-digit decimal addition: for BCD operands, ADD and then DAA leave in A the BCD of
the sum modulo 100, with CY set exactly when the sum is 100 or more. -/
def Obligations.DecimalAddition : Prop :=
  ∀ (s : State) (x y : Nat), x < 100 → y < 100 →
    s.cpu.a.toNat = x / 10 * 16 + x % 10 →
    ∃ t u : State,
      exec (.addAD8 (BitVec.ofNat 8 (y / 10 * 16 + y % 10))) s = .next t ∧
      exec .daa t = .next u ∧
      u.cpu.a.toNat = (x + y) % 100 / 10 * 16 + (x + y) % 10 ∧ u.fCY = decide (100 ≤ x + y)

/-- R551, R552, R553: CPL, SCF and CCF; Z is kept by all three. -/
def Obligations.ComplementAndCarry : Prop :=
  ∀ s : State,
    (encode .cpl = [0x2F#8] ∧ ∃ t : State, exec .cpl s = .next t ∧
      t.cpu.a.toNat = 255 - s.cpu.a.toNat ∧ HasFlags s.fZ true true s.fCY t ∧
      RegistersOnly [.a] s t ∧ t.mcycles = 1) ∧
    (encode .scf = [0x37#8] ∧ ∃ t : State, exec .scf s = .next t ∧
      HasFlags s.fZ false false true t ∧ RegistersOnly [] s t ∧ t.mcycles = 1) ∧
    (encode .ccf = [0x3F#8] ∧ ∃ t : State, exec .ccf s = .next t ∧
      HasFlags s.fZ false false (!s.fCY) t ∧ RegistersOnly [] s t ∧ t.mcycles = 1)

/-! ## 16-bit arithmetic -/

/-- R601, R602, R603: INC and DEC of a pair or SP write no flag; ADD HL takes H from bit 11 and CY from
bit 15 and keeps Z. -/
def Obligations.PairArithmetic : Prop :=
  ∀ (s : State) (rr : Reg16),
    (encode (.inc16 rr) = [0b00#2 ++ rr.code ++ 0b0011#4] ∧
      ∃ t : State, exec (.inc16 rr) s = .next t ∧
        (t.reg16 rr).toNat = ((s.reg16 rr).toNat + 1) % 65536 ∧
        Kept rr.parts s t ∧ (rr ≠ .sp → t.cpu.sp = s.cpu.sp) ∧ t.cpu.pc = s.cpu.pc ∧
        SameMemory s t ∧ t.cpu.f = s.cpu.f ∧ t.mcycles = 2) ∧
    (encode (.dec16 rr) = [0b00#2 ++ rr.code ++ 0b1011#4] ∧
      ∃ t : State, exec (.dec16 rr) s = .next t ∧
        (t.reg16 rr).toNat = ((s.reg16 rr).toNat + 65535) % 65536 ∧
        Kept rr.parts s t ∧ (rr ≠ .sp → t.cpu.sp = s.cpu.sp) ∧ t.cpu.pc = s.cpu.pc ∧
        SameMemory s t ∧ t.cpu.f = s.cpu.f ∧ t.mcycles = 2) ∧
    (encode (.addHl rr) = [0b00#2 ++ rr.code ++ 0b1001#4] ∧
      ∃ t : State, exec (.addHl rr) s = .next t ∧
        t.hl.toNat = (s.hl.toNat + (s.reg16 rr).toNat) % 65536 ∧
        HasFlags s.fZ false (decide (4095 < s.hl.toNat % 4096 + (s.reg16 rr).toNat % 4096))
          (decide (65535 < s.hl.toNat + (s.reg16 rr).toNat)) t ∧
        RegistersOnly [.h, .l] s t ∧ t.mcycles = 2)

/-- R604, R605: SP plus a signed byte into SP or HL, with H and CY of the unsigned add of the low
bytes. -/
def Obligations.SpArithmetic : Prop :=
  ∀ (s : State) (e : Byte),
    let h := decide (15 < s.cpu.sp.toNat % 16 + e.toNat % 16)
    let c := decide (255 < s.cpu.sp.toNat % 256 + e.toNat)
    (encode (.addSpE8 e) = [0xE8#8, e] ∧
      ∃ t : State, exec (.addSpE8 e) s = .next t ∧
        (t.cpu.sp.toNat : Int) = ((s.cpu.sp.toNat : Int) + e.toInt) % 65536 ∧
        HasFlags false false h c t ∧ Kept [] s t ∧ t.cpu.pc = s.cpu.pc ∧ SameMemory s t ∧
        t.mcycles = 4) ∧
    (encode (.ldHlSpE8 e) = [0xF8#8, e] ∧
      ∃ t : State, exec (.ldHlSpE8 e) s = .next t ∧
        (t.hl.toNat : Int) = ((s.cpu.sp.toNat : Int) + e.toInt) % 65536 ∧
        HasFlags false false h c t ∧ RegistersOnly [.h, .l] s t ∧ t.mcycles = 3)

/-! ## Rotates, shifts and bits -/

/-- R700-R704: RLCA, RRCA, RLA and RRA, as integers; Z is always 0. -/
def Obligations.RotateA : Prop :=
  ∀ s : State,
    let a := s.cpu.a.toNat
    let cy := s.fCY.toNat
    ∀ row ∈ ([(.rlca, 0x07#8, a * 2 % 256 + a / 128, decide (128 ≤ a)),
        (.rrca, 0x0F#8, a / 2 + a % 2 * 128, decide (a % 2 = 1)),
        (.rla, 0x17#8, a * 2 % 256 + cy, decide (128 ≤ a)),
        (.rra, 0x1F#8, a / 2 + cy * 128, decide (a % 2 = 1))] : List (Instr × Byte × Nat × Bool)),
      encode row.1 = [row.2.1] ∧
      ∃ t : State, exec row.1 s = .next t ∧ t.cpu.a.toNat = row.2.2.1 ∧
        HasFlags false false false row.2.2.2 t ∧ RegistersOnly [.a] s t ∧ t.mcycles = 1

/-- R700: the eight CB rotates and shifts on a register or the byte at HL, as integers; Z from the
result, N and H 0, CY the bit shifted out, 0 for SWAP. -/
def Obligations.RotateShift : Prop :=
  ∀ (s : State) (o : RotOp) (x : Operand8),
    let v := (x.value s).toNat
    let cy := s.fCY.toNat
    let r : Nat := match o with
      | .rlc => v * 2 % 256 + v / 128
      | .rrc => v / 2 + v % 2 * 128
      | .rl => v * 2 % 256 + cy
      | .rr => v / 2 + cy * 128
      | .sla => v * 2 % 256
      | .sra => v / 2 + v / 128 * 128
      | .swap => v % 16 * 16 + v / 16
      | .srl => v / 2
    let out : Bool := match o with
      | .rlc | .rl | .sla => decide (128 ≤ v)
      | .rrc | .rr | .sra | .srl => decide (v % 2 = 1)
      | .swap => false
    encode (.rot o x) = [0xCB#8, 0b00#2 ++ o.code ++ x.code] ∧
    ∃ t : State, exec (.rot o x) s = .next t ∧ Writes x (BitVec.ofNat 8 r) s t ∧
      HasFlags (decide (r = 0)) false false out t ∧ t.mcycles = x.count 2 4

/-- R801-R806: BIT tests one bit and writes only flags; RES and SET clear and set one bit of a register
or of the byte at HL and write no flag. -/
def Obligations.Bits : Prop :=
  ∀ (s : State) (k : Num3) (x : Operand8),
    let v := x.value s
    (encode (.bit k x) = [0xCB#8, 0b01#2 ++ k.code ++ x.code] ∧
      ∃ t : State, exec (.bit k x) s = .next t ∧
        HasFlags (decide (v.toNat / 2 ^ k.toNat % 2 = 0)) false true s.fCY t ∧
        RegistersOnly [] s t ∧ t.mcycles = x.count 2 3) ∧
    (encode (.res k x) = [0xCB#8, 0b10#2 ++ k.code ++ x.code] ∧
      ∃ t : State, exec (.res k x) s = .next t ∧
        Writes x (BitVec.ofNat 8 (v.toNat - v.toNat / 2 ^ k.toNat % 2 * 2 ^ k.toNat)) s t ∧
        t.cpu.f = s.cpu.f ∧ t.mcycles = x.count 2 4) ∧
    (encode (.set k x) = [0xCB#8, 0b11#2 ++ k.code ++ x.code] ∧
      ∃ t : State, exec (.set k x) s = .next t ∧
        Writes x (BitVec.ofNat 8
          (v.toNat + (1 - v.toNat / 2 ^ k.toNat % 2) * 2 ^ k.toNat)) s t ∧
        t.cpu.f = s.cpu.f ∧ t.mcycles = x.count 2 4)

/-! ## Control transfer -/

/-- R901-R905: the jumps; a relative one counts from the pc past the instruction, modulo 2^16, and a
conditional one not taken changes nothing but its count. -/
def Obligations.Jumps : Prop :=
  ∀ (s : State) (cc : Cond) (lo hi e : Byte),
    let target := BitVec.ofInt 16 ((s.cpu.pc.toNat : Int) + e.toInt)
    (encode (.jpA16 (hi ++ lo)) = [0xC3#8, lo, hi] ∧
      exec (.jpA16 (hi ++ lo)) s =
        .next { s with mcycles := 4, cpu := { s.cpu with pc := hi ++ lo } }) ∧
    (encode (.jpCond cc (hi ++ lo)) = [0b110#3 ++ cc.code ++ 0b010#3, lo, hi] ∧
      (cc.holds s → exec (.jpCond cc (hi ++ lo)) s =
        .next { s with mcycles := 4, cpu := { s.cpu with pc := hi ++ lo } }) ∧
      (¬ cc.holds s → exec (.jpCond cc (hi ++ lo)) s = .next { s with mcycles := 3 })) ∧
    (encode .jpAtHl = [0xE9#8] ∧
      exec .jpAtHl s = .next { s with mcycles := 1, cpu := { s.cpu with pc := s.hl } }) ∧
    (encode (.jrE8 e) = [0x18#8, e] ∧
      exec (.jrE8 e) s = .next { s with mcycles := 3, cpu := { s.cpu with pc := target } }) ∧
    (encode (.jrCond cc e) = [0b001#3 ++ cc.code ++ 0b000#3, e] ∧
      (cc.holds s → exec (.jrCond cc e) s =
        .next { s with mcycles := 3, cpu := { s.cpu with pc := target } }) ∧
      (¬ cc.holds s → exec (.jrCond cc e) s = .next { s with mcycles := 2 }))

/-- R910, R911, R920: CALL, CALL cc and RST push the address past themselves, high byte first, and jump;
a CALL cc not taken writes no memory and leaves SP. -/
def Obligations.CallsAndRestarts : Prop :=
  ∀ (s : State) (cc : Cond) (k : Num3) (lo hi : Byte),
    let Called := fun (t : State) (target : Word) (n : Nat) =>
      StoredTwo (s.cpu.sp - 1#16) (s.cpu.pc.extractLsb' 8 8) (s.cpu.sp - 2#16)
        (s.cpu.pc.extractLsb' 0 8) s t ∧
      t.cpu.sp = s.cpu.sp - 2#16 ∧ t.cpu.pc = target ∧ Kept [] s t ∧ t.cpu.f = s.cpu.f ∧
      t.mcycles = n
    (encode (.callA16 (hi ++ lo)) = [0xCD#8, lo, hi] ∧
      ∃ t : State, exec (.callA16 (hi ++ lo)) s = .next t ∧ Called t (hi ++ lo) 6) ∧
    (encode (.callCond cc (hi ++ lo)) = [0b110#3 ++ cc.code ++ 0b100#3, lo, hi] ∧
      (cc.holds s → ∃ t : State, exec (.callCond cc (hi ++ lo)) s = .next t ∧
        Called t (hi ++ lo) 6) ∧
      (¬ cc.holds s → exec (.callCond cc (hi ++ lo)) s = .next { s with mcycles := 3 })) ∧
    (encode (.rst k) = [0b11#2 ++ k.code ++ 0b111#3] ∧
      ∃ t : State, exec (.rst k) s = .next t ∧ Called t (BitVec.ofNat 16 (8 * k.toNat)) 4)

/-- R912, R913, R914: RET, RET cc and RETI pop pc, low byte at SP; RETI also sets IME at once and
cancels a pending EI. -/
def Obligations.Returns : Prop :=
  ∀ (s : State) (cc : Cond),
    let popped := memRead s (s.cpu.sp + 1#16) ++ memRead s s.cpu.sp
    (encode .ret = [0xC9#8] ∧ exec .ret s =
      .next { s with
        mcycles := 4
        cpu := { s.cpu with pc := popped, sp := s.cpu.sp + 2#16 } }) ∧
    (encode (.retCond cc) = [0b110#3 ++ cc.code ++ 0b000#3] ∧
      (cc.holds s → exec (.retCond cc) s =
        .next { s with
          mcycles := 5
          cpu := { s.cpu with pc := popped, sp := s.cpu.sp + 2#16 } }) ∧
      (¬ cc.holds s → exec (.retCond cc) s = .next { s with mcycles := 2 })) ∧
    (encode .reti = [0xD9#8] ∧ exec .reti s =
      .next { s with
        mcycles := 4
        cpu := { s.cpu with
          pc := popped, sp := s.cpu.sp + 2#16, ime := true, eiDelay := false } })

/-- R921: CALL at a and then RET restore pc to a + 3 and SP, RST to a + 1, where both stack bytes are
storage; CALL and RET together cost 10 machine cycles. -/
def Obligations.CallThenReturn : Prop :=
  ∀ (s : State) (a target : Word) (k : Num3), BusOk s.cfg s.bus →
    storesByte s (s.cpu.sp - 1#16) = true → storesByte s (s.cpu.sp - 2#16) = true →
    (∃ t u : State, exec (.callA16 target) (s.setPc (a + 3#16)) = .next t ∧
      exec .ret t = .next u ∧ t.cpu.pc = target ∧
      u.cpu.pc = a + 3#16 ∧ u.cpu.sp = s.cpu.sp ∧ t.mcycles + u.mcycles = 10) ∧
    (∃ t u : State, exec (.rst k) (s.setPc (a + 1#16)) = .next t ∧
      exec .ret t = .next u ∧ u.cpu.pc = a + 1#16 ∧ u.cpu.sp = s.cpu.sp)

/-! ## System instructions -/

/-- R1001, R1010, R1011, R1012, R1020, R1021: NOP, HALT, STOP, DI and EI. HALT halts, unless the HALT
bug is enabled, IME is 0 and a source is both enabled and requested: then it sets the bug. STOP ignores
its second byte. EI marks its effect as still to come and leaves IME. -/
def Obligations.SystemInstructions : Prop :=
  ∀ (s : State) (n : Byte),
    let pending := memRead s 0xFFFF#16 &&& memRead s 0xFF0F#16 &&& 0x1F#8
    (encode .nop = [0x00#8] ∧ exec .nop s = .next { s with mcycles := 1 }) ∧
    (encode .halt = [0x76#8] ∧
      (s.cfg.haltBug = true → s.cpu.ime = false → pending ≠ 0x00#8 →
        exec .halt s = .next { s with mcycles := 1, cpu := { s.cpu with haltBug := true } }) ∧
      (s.cfg.haltBug = false ∨ s.cpu.ime = true ∨ pending = 0x00#8 →
        exec .halt s = .next { s with mcycles := 1, cpu := { s.cpu with halted := true } })) ∧
    (encode (.stop n) = [0x10#8, n] ∧
      exec (.stop n) s = .next { s with mcycles := 1, cpu := { s.cpu with stopped := true } }) ∧
    (encode .di = [0xF3#8] ∧
      exec .di s =
        .next { s with mcycles := 1, cpu := { s.cpu with ime := false, eiDelay := false } }) ∧
    (encode .ei = [0xFB#8] ∧
      exec .ei s = .next { s with mcycles := 1, cpu := { s.cpu with eiDelay := true } })

/-- R320, R1030: each of the eleven unused bytes is logged with the address of its opcode byte and
skipped in 0 machine cycles; under `stop` it sets `faulted`; nothing else changes. -/
def Obligations.UnusedBytes : Prop :=
  ∀ s : State, ∀ row ∈ ([(.illegalD3, 0xD3#8), (.illegalDB, 0xDB#8), (.illegalDD, 0xDD#8),
      (.illegalE3, 0xE3#8), (.illegalE4, 0xE4#8), (.illegalEB, 0xEB#8), (.illegalEC, 0xEC#8),
      (.illegalED, 0xED#8), (.illegalF4, 0xF4#8), (.illegalFC, 0xFC#8), (.illegalFD, 0xFD#8)] :
      List (Instr × Byte)),
    encode row.1 = [row.2] ∧
    exec row.1 s = .next { s with
      mcycles := 0
      faultLog := s.faultLog ++ [⟨s.start, 0x00#8 ++ row.2⟩]
      cpu := { s.cpu with
        faulted := s.cpu.faulted || decide (s.cfg.unknownPolicy = .stops) } }
end

