-- ==== Sys2Proof/Laws/Bits.lean ====
section
/-!
SUPPORT. The byte-order helpers, the packed flags and the small codes: what each gives, once.
-/

namespace Sys2Proof

/-- `hi:lo` is `hi*256 + lo` (R16, R101). -/
theorem joinBytes_toNat (hi lo : Byte) : (joinBytes hi lo).toNat = hi.toNat * 256 + lo.toNat := by
  have h := lo.isLt
  simp only [joinBytes, BitVec.toNat_append]
  rw [← Nat.shiftLeft_add_eq_or_of_lt h, Nat.shiftLeft_eq]

theorem hiByte_toNat (v : Word) : (hiByte v).toNat = v.toNat / 256 := by
  have h := v.isLt
  simp only [hiByte, BitVec.extractLsb'_toNat, Nat.shiftRight_eq_div_pow]
  omega

theorem loByte_toNat (v : Word) : (loByte v).toNat = v.toNat % 256 := by
  simp [loByte, BitVec.extractLsb'_toNat]

@[simp] theorem hiByte_joinBytes (hi lo : Byte) : hiByte (joinBytes hi lo) = hi := by
  have h := lo.isLt
  apply BitVec.eq_of_toNat_eq
  rw [hiByte_toNat, joinBytes_toNat]
  omega

@[simp] theorem loByte_joinBytes (hi lo : Byte) : loByte (joinBytes hi lo) = lo := by
  have h := lo.isLt
  apply BitVec.eq_of_toNat_eq
  rw [loByte_toNat, joinBytes_toNat]
  omega

@[simp] theorem joinBytes_hiByte_loByte (v : Word) : joinBytes (hiByte v) (loByte v) = v := by
  apply BitVec.eq_of_toNat_eq
  rw [joinBytes_toNat, hiByte_toNat, loByte_toNat]
  omega

theorem zext16_toNat (n : Byte) : (zext16 n).toNat = n.toNat := by
  have h := n.isLt
  simp [zext16]
  omega

theorem Num3.toNat_lt (k : Num3) : k.toNat < 8 := by
  cases k <;> decide

namespace Machine

@[simp] theorem flagZ_packFlags (z n h c : Bool) : flagZ (packFlags z n h c) = z := by
  cases z <;> cases n <;> cases h <;> cases c <;> rfl

@[simp] theorem flagN_packFlags (z n h c : Bool) : flagN (packFlags z n h c) = n := by
  cases z <;> cases n <;> cases h <;> cases c <;> rfl

@[simp] theorem flagH_packFlags (z n h c : Bool) : flagH (packFlags z n h c) = h := by
  cases z <;> cases n <;> cases h <;> cases c <;> rfl

@[simp] theorem flagC_packFlags (z n h c : Bool) : flagC (packFlags z n h c) = c := by
  cases z <;> cases n <;> cases h <;> cases c <;> rfl

/-- Packed flags keep F[3:0] at 0 (R102). -/
@[simp] theorem packFlags_and_low (z n h c : Bool) : packFlags z n h c &&& 0x0F#8 = 0x00#8 := by
  cases z <;> cases n <;> cases h <;> cases c <;> rfl

/-- A masked write of F keeps F[3:0] at 0 (R102). -/
@[simp] theorem and_high_and_low (v : Byte) : v &&& 0xF0#8 &&& 0x0F#8 = 0x00#8 := by
  rw [BitVec.and_assoc]
  simp

/-- A byte whose low nibble is 0 is its own high nibble. -/
theorem and_high_of_low {v : Byte} (h : v &&& 0x0F#8 = 0x00#8) : v &&& 0xF0#8 = v := by
  revert v
  decide

/-- The four flags are all that F holds (R102). -/
theorem packFlags_flags {f : Byte} (h : f &&& 0x0F#8 = 0x00#8) :
    packFlags (flagZ f) (flagN f) (flagH f) (flagC f) = f := by
  revert f
  decide

theorem highPage_toNat (n : Byte) : (highPage n).toNat = 0xFF00 + n.toNat := by
  have h := n.isLt
  simp only [highPage, BitVec.toNat_add, zext16_toNat, BitVec.toNat_ofNat]
  omega

theorem rstTarget_toNat (t : Num3) : (rstTarget t).toNat = 8 * t.toNat := by
  cases t <;> rfl

end Machine

end Sys2Proof
end

