-- ==== Sys2Proof/Laws/Map.lean ====
section
/-!
SUPPORT. The bus map region by region: what a read and a write at an address of each region of R210
and R230 are.
-/

namespace Sys2Proof.Machine

/-! ## Writes (R230) -/

theorem memWrite_ramEnable {a : Word} (h2 : a.toNat ≤ 0x1FFF) (v : Byte) (s : State) :
    memWrite a v s = ramEnableWrite v s := by
  simp only [memWrite]
  rw [if_pos (by omega)]

theorem memWrite_romBank {a : Word} (h1 : 0x2000 ≤ a.toNat) (h2 : a.toNat ≤ 0x3FFF) (v : Byte) (s : State) :
    memWrite a v s = romBankWrite v s := by
  simp only [memWrite]
  rw [if_neg (by omega), if_pos (by omega)]

theorem memWrite_ramBank {a : Word} (h1 : 0x4000 ≤ a.toNat) (h2 : a.toNat ≤ 0x5FFF) (v : Byte) (s : State) :
    memWrite a v s = ramBankWrite v s := by
  simp only [memWrite]
  repeat rw [if_neg (by omega)]
  rw [if_pos (by omega)]

theorem memWrite_ignored {a : Word} (h1 : 0x6000 ≤ a.toNat) (h2 : a.toNat ≤ 0x7FFF) (v : Byte) (s : State) :
    memWrite a v s = s := by
  simp only [memWrite]
  repeat rw [if_neg (by omega)]
  rw [if_pos (by omega)]

theorem memWrite_vram {a : Word} (h1 : 0x8000 ≤ a.toNat) (h2 : a.toNat ≤ 0x9FFF) (v : Byte) (s : State) :
    memWrite a v s = s.setMemAt a.toNat v := by
  simp only [memWrite]
  repeat rw [if_neg (by omega)]
  rw [if_pos (by omega)]

theorem memWrite_ext {a : Word} (h1 : 0xA000 ≤ a.toNat) (h2 : a.toNat ≤ 0xBFFF) (v : Byte) (s : State) :
    memWrite a v s = (if s.bus.ramEnable = true ∧ s.bus.ramBank.toNat < s.bus.nRam then
      s.setExtAt s.bus.ramBank.toNat (a.toNat - 0xA000) v else s) := by
  simp only [memWrite]
  repeat rw [if_neg (by omega)]
  rw [if_pos (by omega)]

theorem memWrite_wram {a : Word} (h1 : 0xC000 ≤ a.toNat) (h2 : a.toNat ≤ 0xDFFF) (v : Byte) (s : State) :
    memWrite a v s = s.setMemAt a.toNat v := by
  simp only [memWrite]
  repeat rw [if_neg (by omega)]
  rw [if_pos (by omega)]

theorem memWrite_echo {a : Word} (h1 : 0xE000 ≤ a.toNat) (h2 : a.toNat ≤ 0xFDFF) (v : Byte) (s : State) :
    memWrite a v s = s.setMemAt (a.toNat - 0x2000) v := by
  simp only [memWrite]
  repeat rw [if_neg (by omega)]
  rw [if_pos (by omega)]

theorem memWrite_oam {a : Word} (h1 : 0xFE00 ≤ a.toNat) (h2 : a.toNat ≤ 0xFE9F) (v : Byte) (s : State) :
    memWrite a v s = s.setMemAt a.toNat v := by
  simp only [memWrite]
  repeat rw [if_neg (by omega)]
  rw [if_pos (by omega)]

theorem memWrite_hole {a : Word} (h1 : 0xFEA0 ≤ a.toNat) (h2 : a.toNat ≤ 0xFEFF) (v : Byte) (s : State) :
    memWrite a v s = s := by
  simp only [memWrite]
  repeat rw [if_neg (by omega)]
  rw [if_pos (by omega)]

theorem memWrite_io {a : Word} (h1 : 0xFF00 ≤ a.toNat) (h2 : a.toNat ≤ 0xFF7F) (v : Byte) (s : State) :
    memWrite a v s = ioWrite (a.toNat - 0xFF00) v s := by
  simp only [memWrite]
  repeat rw [if_neg (by omega)]
  rw [if_pos (by omega)]

theorem memWrite_hram {a : Word} (h1 : 0xFF80 ≤ a.toNat) (h2 : a.toNat ≤ 0xFFFE) (v : Byte) (s : State) :
    memWrite a v s = s.setMemAt a.toNat v := by
  simp only [memWrite]
  repeat rw [if_neg (by omega)]
  rw [if_pos (by omega)]

theorem memWrite_ie {a : Word} (h1 : a.toNat = 0xFFFF) (v : Byte) (s : State) :
    memWrite a v s = { s with bus := { s.bus with ie := v } } := by
  simp only [memWrite]
  repeat rw [if_neg (by omega)]

/-! ## Reads above the ROM windows (R210) -/

theorem memRead_vram {a : Word} (h1 : 0x8000 ≤ a.toNat) (h2 : a.toNat ≤ 0x9FFF) (s : State) :
    memRead s a = s.memAt a.toNat := by
  simp only [memRead]
  repeat rw [if_neg (by omega)]
  rw [if_pos (by omega)]

theorem memRead_ext {a : Word} (h1 : 0xA000 ≤ a.toNat) (h2 : a.toNat ≤ 0xBFFF) (s : State) :
    memRead s a = (if s.bus.ramEnable = true ∧ s.bus.ramBank.toNat < s.bus.nRam then
      s.extAt s.bus.ramBank.toNat (a.toNat - 0xA000) else 0xFF#8) := by
  simp only [memRead]
  repeat rw [if_neg (by omega)]
  rw [if_pos (by omega)]

theorem memRead_wram {a : Word} (h1 : 0xC000 ≤ a.toNat) (h2 : a.toNat ≤ 0xDFFF) (s : State) :
    memRead s a = s.memAt a.toNat := by
  simp only [memRead]
  repeat rw [if_neg (by omega)]
  rw [if_pos (by omega)]

theorem memRead_echo {a : Word} (h1 : 0xE000 ≤ a.toNat) (h2 : a.toNat ≤ 0xFDFF) (s : State) :
    memRead s a = s.memAt (a.toNat - 0x2000) := by
  simp only [memRead]
  repeat rw [if_neg (by omega)]
  rw [if_pos (by omega)]

theorem memRead_oam {a : Word} (h1 : 0xFE00 ≤ a.toNat) (h2 : a.toNat ≤ 0xFE9F) (s : State) :
    memRead s a = s.memAt a.toNat := by
  simp only [memRead]
  repeat rw [if_neg (by omega)]
  rw [if_pos (by omega)]

theorem memRead_hole {a : Word} (h1 : 0xFEA0 ≤ a.toNat) (h2 : a.toNat ≤ 0xFEFF) (s : State) :
    memRead s a = 0xFF#8 := by
  simp only [memRead]
  repeat rw [if_neg (by omega)]
  rw [if_pos (by omega)]

theorem memRead_io {a : Word} (h1 : 0xFF00 ≤ a.toNat) (h2 : a.toNat ≤ 0xFF7F) (s : State) :
    memRead s a = ioRead s (a.toNat - 0xFF00) := by
  simp only [memRead]
  repeat rw [if_neg (by omega)]
  rw [if_pos (by omega)]

theorem memRead_hram {a : Word} (h1 : 0xFF80 ≤ a.toNat) (h2 : a.toNat ≤ 0xFFFE) (s : State) :
    memRead s a = s.memAt a.toNat := by
  simp only [memRead]
  repeat rw [if_neg (by omega)]
  rw [if_pos (by omega)]

theorem memRead_ie {a : Word} (h1 : a.toNat = 0xFFFF) (s : State) :
    memRead s a = s.bus.ie := by
  simp only [memRead]
  repeat rw [if_neg (by omega)]

/-! ## Reads of the ROM windows (R210, R213) -/

theorem memRead_boot {a : Word} {s : State} (hb : s.bus.bootEnabled = true)
    (h : a.toNat ≤ 0x00FF) : memRead s a = bootByte s a.toNat := by
  simp only [memRead]
  rw [if_pos ⟨hb, h⟩]

theorem memRead_rom0 {a : Word} {s : State}
    (hb : s.bus.bootEnabled = false ∨ 0x0100 ≤ a.toNat) (h : a.toNat ≤ 0x3FFF) :
    memRead s a = s.romAt a.toNat := by
  have h1 : ¬ (s.bus.bootEnabled = true ∧ a.toNat ≤ 0x00FF) := by
    rintro ⟨h2, h3⟩
    rcases hb with hb | hb
    · simp [hb] at h2
    · omega
  simp only [memRead]
  rw [if_neg h1, if_pos h]

theorem memRead_romBank {a : Word} (h1 : 0x4000 ≤ a.toNat) (h2 : a.toNat ≤ 0x7FFF) (s : State) :
    memRead s a = (if 1 ≤ s.bus.romBank.toNat ∧ s.bus.romBank.toNat ≤ s.bus.nRom then
      s.romAt (16384 * s.bus.romBank.toNat + (a.toNat - 0x4000)) else 0xFF#8) := by
  simp only [memRead]
  repeat rw [if_neg (by omega)]
  rw [if_pos (by omega)]

end Sys2Proof.Machine
end

