-- ==== Sys2Proof/Laws/Memory.lean ====
section
/-!
SUPPORT. Sparse stores: a read after a write, every other location unchanged, the canonical form
kept, and equal contents are equal data.
-/

namespace Sys2Proof.Machine

variable {β : Type} [DecidableEq β] {dflt : Nat → β}

theorem Cells.wfFrom_cons {lo k : Nat} {v : β} {m : List (Nat × β)} :
    Cells.wfFrom dflt lo ((k, v) :: m) = true ↔
      lo ≤ k ∧ v ≠ dflt k ∧ Cells.wfFrom dflt (k + 1) m = true := by
  simp [Cells.wfFrom, and_assoc]

theorem Cells.wfFrom_mono {lo lo' : Nat} (h : lo' ≤ lo) {m : List (Nat × β)}
    (hm : Cells.wfFrom dflt lo m = true) : Cells.wfFrom dflt lo' m = true := by
  cases m with
  | nil => rfl
  | cons c m =>
    obtain ⟨k, v⟩ := c
    rw [Cells.wfFrom_cons] at hm ⊢
    exact ⟨by omega, hm.2⟩

/-- Below the first key, every location reads as the default. -/
theorem Cells.get_of_lt {lo j : Nat} (h : j < lo) {m : List (Nat × β)}
    (hm : Cells.wfFrom dflt lo m = true) : Cells.get dflt m j = dflt j := by
  cases m with
  | nil => rfl
  | cons c m =>
    obtain ⟨k, v⟩ := c
    rw [Cells.wfFrom_cons] at hm
    have h1 : j ≠ k := by omega
    have h2 : j < k := by omega
    simp [Cells.get, h1, h2]

/-- A read of the location just written gives the value written. -/
theorem Cells.get_set_same {lo : Nat} (k : Nat) (v : β) {m : List (Nat × β)}
    (hm : Cells.wfFrom dflt lo m = true) : Cells.get dflt (Cells.set dflt m k v) k = v := by
  induction m generalizing lo with
  | nil => by_cases h : v = dflt k <;> simp [Cells.set, Cells.get, h]
  | cons c m ih =>
    obtain ⟨k', v'⟩ := c
    rw [Cells.wfFrom_cons] at hm
    simp only [Cells.set]
    split
    · next h => by_cases hv : v = dflt k <;> simp [Cells.get, hv, h, Nat.ne_of_lt h]
    · split
      · next h1 h2 =>
        subst h2
        by_cases hv : v = dflt k
        · simp [hv, Cells.get_of_lt (Nat.lt_succ_self k) hm.2.2]
        · simp [hv, Cells.get]
      · next h1 h2 => simp [Cells.get, h1, h2, ih hm.2.2]

/-- A write leaves every other location alone. -/
theorem Cells.get_set_other {lo : Nat} {k j : Nat} (v : β) (hj : j ≠ k) {m : List (Nat × β)}
    (hm : Cells.wfFrom dflt lo m = true) :
    Cells.get dflt (Cells.set dflt m k v) j = Cells.get dflt m j := by
  induction m generalizing lo with
  | nil => by_cases h : v = dflt k <;> simp [Cells.set, Cells.get, h, hj]
  | cons c m ih =>
    obtain ⟨k', v'⟩ := c
    rw [Cells.wfFrom_cons] at hm
    simp only [Cells.set]
    split
    · next h =>
      by_cases hv : v = dflt k
      · simp [hv]
      · by_cases h1 : j < k
        · have h2 : j ≠ k' := by omega
          have h3 : j < k' := by omega
          simp [hv, Cells.get, hj, h1, h2, h3]
        · simp [hv, Cells.get, hj, h1]
    · split
      · next h1 h2 =>
        subst h2
        by_cases hv : v = dflt k
        · by_cases h3 : j < k
          · simp [hv, Cells.get, hj, h3, Cells.get_of_lt (by omega : j < k + 1) hm.2.2]
          · simp [hv, Cells.get, hj, h3]
        · simp [hv, Cells.get, hj]
      · next h1 h2 => simp only [Cells.get, ih hm.2.2]

/-- Every location after a write. -/
theorem Cells.get_set {lo : Nat} (k j : Nat) (v : β) {m : List (Nat × β)}
    (hm : Cells.wfFrom dflt lo m = true) :
    Cells.get dflt (Cells.set dflt m k v) j = if j = k then v else Cells.get dflt m j := by
  by_cases h : j = k
  · subst h; simp [Cells.get_set_same _ _ hm]
  · simp [h, Cells.get_set_other _ h hm]

/-- A write keeps the canonical form. -/
theorem Cells.wfFrom_set {lo : Nat} {k : Nat} (hk : lo ≤ k) (v : β) {m : List (Nat × β)}
    (hm : Cells.wfFrom dflt lo m = true) : Cells.wfFrom dflt lo (Cells.set dflt m k v) = true := by
  induction m generalizing lo with
  | nil =>
    by_cases h : v = dflt k
    · simp [Cells.set, h, Cells.wfFrom]
    · simp [Cells.set, h, Cells.wfFrom, hk]
  | cons c m ih =>
    obtain ⟨k', v'⟩ := c
    have hm' := hm
    rw [Cells.wfFrom_cons] at hm'
    simp only [Cells.set]
    split
    · next h =>
      by_cases hv : v = dflt k
      · simp only [hv, if_true]; exact hm
      · simp only [hv, if_false]
        rw [Cells.wfFrom_cons, Cells.wfFrom_cons]
        exact ⟨hk, hv, by omega, hm'.2⟩
    · split
      · next h1 h2 =>
        subst h2
        by_cases hv : v = dflt k
        · simp only [hv, if_true]; exact Cells.wfFrom_mono (by omega) hm'.2.2
        · simp only [hv, if_false]
          rw [Cells.wfFrom_cons]
          exact ⟨hk, hv, hm'.2.2⟩
      · next h1 h2 =>
        rw [Cells.wfFrom_cons]
        exact ⟨hm'.1, hm'.2.1, ih (by omega) hm'.2.2⟩

theorem Cells.wf_set (k : Nat) (v : β) {m : List (Nat × β)} (hm : Cells.wf dflt m = true) :
    Cells.wf dflt (Cells.set dflt m k v) = true :=
  Cells.wfFrom_set (Nat.zero_le k) v hm

/-- A write lists no location but the one written and those listed before. -/
theorem Cells.keys_set (P : Nat → Prop) {k : Nat} (v : β) {m : List (Nat × β)} (hk : P k)
    (hm : ∀ c ∈ m, P c.1) : ∀ c ∈ Cells.set dflt m k v, P c.1 := by
  induction m with
  | nil =>
    by_cases h : v = dflt k
    · simp [Cells.set, h]
    · simp [Cells.set, h, hk]
  | cons c m ih =>
    obtain ⟨k', v'⟩ := c
    have h0 : P k' := hm (k', v') (by simp)
    have h1 : ∀ c ∈ m, P c.1 := fun c hc => hm c (by simp [hc])
    simp only [Cells.set]
    split
    · by_cases hv : v = dflt k
      · simp only [hv, if_true]; exact hm
      · simp only [hv, if_false]
        intro c hc
        rcases List.mem_cons.mp hc with rfl | hc
        · exact hk
        · exact hm c hc
    · split
      · by_cases hv : v = dflt k
        · simp only [hv, if_true]; exact h1
        · simp only [hv, if_false]
          intro c hc
          rcases List.mem_cons.mp hc with rfl | hc
          · exact hk
          · exact h1 c hc
      · intro c hc
        rcases List.mem_cons.mp hc with rfl | hc
        · exact h0
        · exact ih h1 c hc

/-- Two canonical stores with the same contents are equal. -/
theorem Cells.ext_of_wfFrom {lo : Nat} {m m' : List (Nat × β)}
    (hm : Cells.wfFrom dflt lo m = true) (hm' : Cells.wfFrom dflt lo m' = true)
    (h : ∀ k, Cells.get dflt m k = Cells.get dflt m' k) : m = m' := by
  induction m generalizing lo m' with
  | nil =>
    cases m' with
    | nil => rfl
    | cons c m' =>
      obtain ⟨k, v⟩ := c
      have h1 := (Cells.wfFrom_cons.mp hm').2.1
      have h2 := h k
      simp only [Cells.get] at h2
      exact absurd h2.symm (by simpa using h1)
  | cons c m ih =>
    obtain ⟨k, v⟩ := c
    obtain ⟨hlo, hv, ht⟩ := Cells.wfFrom_cons.mp hm
    cases m' with
    | nil =>
      have h2 := h k
      simp only [Cells.get] at h2
      exact absurd h2 (by simpa using hv)
    | cons c' m' =>
      obtain ⟨k', v'⟩ := c'
      obtain ⟨hlo', hv', ht'⟩ := Cells.wfFrom_cons.mp hm'
      have hk : k = k' := by
        rcases Nat.lt_trichotomy k k' with hlt | heq | hgt
        · have h2 := h k
          simp [Cells.get, Nat.ne_of_lt hlt, hlt] at h2
          exact absurd h2 hv
        · exact heq
        · have h2 := h k'
          simp [Cells.get, Nat.ne_of_lt hgt, hgt] at h2
          exact absurd h2.symm hv'
      subst hk
      have hvv : v = v' := by simpa [Cells.get] using h k
      subst hvv
      congr 1
      apply ih ht ht'
      intro j
      by_cases hj : j < k + 1
      · rw [Cells.get_of_lt hj ht, Cells.get_of_lt hj ht']
      · have h1 : j ≠ k := by omega
        have h2 : ¬ j < k := by omega
        simpa [Cells.get, h1, h2] using h j

/-- Equal memories are equal data. -/
theorem Memory.ext_of_wf {sp : Space} {m m' : List Host.Cell} (hm : Memory.wf sp m = true)
    (hm' : Memory.wf sp m' = true)
    (h : ∀ k, Cells.get (unlisted sp) m k = Cells.get (unlisted sp) m' k) : m = m' :=
  Cells.ext_of_wfFrom hm hm' h

/-- A store's write keeps its canonical form. -/
theorem Memory.wf_set (sp : Space) (k : Nat) (v : Byte) {m : List Host.Cell}
    (hm : Memory.wf sp m = true) : Memory.wf sp (Cells.set (unlisted sp) m k v) = true :=
  Cells.wf_set k v hm

/-! ## The stores of the state -/

theorem State.memAt_setMemAt {s : State} (h : Memory.wf .internal s.bus.mem = true) (k j : Nat)
    (v : Byte) : (s.setMemAt k v).memAt j = if j = k then v else s.memAt j :=
  Cells.get_set k j v h

theorem State.extAt_setExtAt {s : State} (h : Memory.wf .cartRam s.bus.ext = true)
    (b o b' o' : Nat) (v : Byte) :
    (s.setExtAt b o v).extAt b' o' =
      if 8192 * b' + o' = 8192 * b + o then v else s.extAt b' o' :=
  Cells.get_set _ _ v h

theorem State.io_setIo {s : State} (h : Memory.wf .internal s.bus.mem = true) (n j : Nat)
    (v : Byte) : (s.setIo n v).io j = if j = n then v else s.io j := by
  simp only [State.io, State.setIo, State.memAt_setMemAt h]
  congr 1
  simp

theorem State.fbAt_setFbAt {s : State} (h : Cells.wf (fun _ => s.cfg.fbInit) s.ppu.fb = true)
    (k j : Nat) (v : BitVec 32) : (s.setFbAt k v).fbAt j = if j = k then v else s.fbAt j :=
  Cells.get_set k j v h

@[simp] theorem State.memAt_setExtAt (s : State) (b o : Nat) (v : Byte) (k : Nat) :
    (s.setExtAt b o v).memAt k = s.memAt k := rfl

@[simp] theorem State.romAt_setMemAt (s : State) (k : Nat) (v : Byte) (o : Nat) :
    (s.setMemAt k v).romAt o = s.romAt o := rfl

@[simp] theorem State.romAt_setExtAt (s : State) (b o : Nat) (v : Byte) (j : Nat) :
    (s.setExtAt b o v).romAt j = s.romAt j := rfl

@[simp] theorem State.extAt_setMemAt (s : State) (k : Nat) (v : Byte) (b o : Nat) :
    (s.setMemAt k v).extAt b o = s.extAt b o := rfl

end Sys2Proof.Machine
end

