-- ==== Sys2Proof/Laws/State.lean ====
section
/-!
SUPPORT. What each named update of the state leaves alone, field by field, so that no later proof
unfolds a record update.
-/

namespace Sys2Proof.Machine

/-! ## Storage -/

@[simp] theorem State.setMemAt_cfg (s : State) (k : Nat) (v : Byte) :
    (s.setMemAt k v).cfg = s.cfg := rfl

@[simp] theorem State.setMemAt_cpu (s : State) (k : Nat) (v : Byte) :
    (s.setMemAt k v).cpu = s.cpu := rfl

@[simp] theorem State.setMemAt_ppu (s : State) (k : Nat) (v : Byte) :
    (s.setMemAt k v).ppu = s.ppu := rfl

@[simp] theorem State.setMemAt_faultLog (s : State) (k : Nat) (v : Byte) :
    (s.setMemAt k v).faultLog = s.faultLog := rfl

@[simp] theorem State.setMemAt_mcycles (s : State) (k : Nat) (v : Byte) :
    (s.setMemAt k v).mcycles = s.mcycles := rfl

@[simp] theorem State.setMemAt_start (s : State) (k : Nat) (v : Byte) :
    (s.setMemAt k v).start = s.start := rfl

@[simp] theorem State.setMemAt_bus_rom (s : State) (k : Nat) (v : Byte) :
    (s.setMemAt k v).bus.rom = s.bus.rom := rfl

@[simp] theorem State.setMemAt_bus_ext (s : State) (k : Nat) (v : Byte) :
    (s.setMemAt k v).bus.ext = s.bus.ext := rfl

@[simp] theorem State.setMemAt_bus_nRom (s : State) (k : Nat) (v : Byte) :
    (s.setMemAt k v).bus.nRom = s.bus.nRom := rfl

@[simp] theorem State.setMemAt_bus_nRam (s : State) (k : Nat) (v : Byte) :
    (s.setMemAt k v).bus.nRam = s.bus.nRam := rfl

@[simp] theorem State.setMemAt_bus_romBank (s : State) (k : Nat) (v : Byte) :
    (s.setMemAt k v).bus.romBank = s.bus.romBank := rfl

@[simp] theorem State.setMemAt_bus_ramBank (s : State) (k : Nat) (v : Byte) :
    (s.setMemAt k v).bus.ramBank = s.bus.ramBank := rfl

@[simp] theorem State.setMemAt_bus_ramEnable (s : State) (k : Nat) (v : Byte) :
    (s.setMemAt k v).bus.ramEnable = s.bus.ramEnable := rfl

@[simp] theorem State.setMemAt_bus_bootEnabled (s : State) (k : Nat) (v : Byte) :
    (s.setMemAt k v).bus.bootEnabled = s.bus.bootEnabled := rfl

@[simp] theorem State.setMemAt_bus_ie (s : State) (k : Nat) (v : Byte) :
    (s.setMemAt k v).bus.ie = s.bus.ie := rfl

@[simp] theorem State.setExtAt_cfg (s : State) (b o : Nat) (v : Byte) :
    (s.setExtAt b o v).cfg = s.cfg := rfl

@[simp] theorem State.setExtAt_cpu (s : State) (b o : Nat) (v : Byte) :
    (s.setExtAt b o v).cpu = s.cpu := rfl

@[simp] theorem State.setExtAt_ppu (s : State) (b o : Nat) (v : Byte) :
    (s.setExtAt b o v).ppu = s.ppu := rfl

@[simp] theorem State.setExtAt_faultLog (s : State) (b o : Nat) (v : Byte) :
    (s.setExtAt b o v).faultLog = s.faultLog := rfl

@[simp] theorem State.setExtAt_mcycles (s : State) (b o : Nat) (v : Byte) :
    (s.setExtAt b o v).mcycles = s.mcycles := rfl

@[simp] theorem State.setExtAt_start (s : State) (b o : Nat) (v : Byte) :
    (s.setExtAt b o v).start = s.start := rfl

@[simp] theorem State.setExtAt_bus_mem (s : State) (b o : Nat) (v : Byte) :
    (s.setExtAt b o v).bus.mem = s.bus.mem := rfl

@[simp] theorem State.setExtAt_bus_rom (s : State) (b o : Nat) (v : Byte) :
    (s.setExtAt b o v).bus.rom = s.bus.rom := rfl

@[simp] theorem State.setExtAt_bus_nRom (s : State) (b o : Nat) (v : Byte) :
    (s.setExtAt b o v).bus.nRom = s.bus.nRom := rfl

@[simp] theorem State.setExtAt_bus_nRam (s : State) (b o : Nat) (v : Byte) :
    (s.setExtAt b o v).bus.nRam = s.bus.nRam := rfl

@[simp] theorem State.setExtAt_bus_romBank (s : State) (b o : Nat) (v : Byte) :
    (s.setExtAt b o v).bus.romBank = s.bus.romBank := rfl

@[simp] theorem State.setExtAt_bus_ramBank (s : State) (b o : Nat) (v : Byte) :
    (s.setExtAt b o v).bus.ramBank = s.bus.ramBank := rfl

@[simp] theorem State.setExtAt_bus_ramEnable (s : State) (b o : Nat) (v : Byte) :
    (s.setExtAt b o v).bus.ramEnable = s.bus.ramEnable := rfl

@[simp] theorem State.setExtAt_bus_bootEnabled (s : State) (b o : Nat) (v : Byte) :
    (s.setExtAt b o v).bus.bootEnabled = s.bus.bootEnabled := rfl

@[simp] theorem State.setExtAt_bus_ie (s : State) (b o : Nat) (v : Byte) :
    (s.setExtAt b o v).bus.ie = s.bus.ie := rfl

@[simp] theorem State.setIo_cfg (s : State) (n : Nat) (v : Byte) :
    (s.setIo n v).cfg = s.cfg := rfl

@[simp] theorem State.setIo_cpu (s : State) (n : Nat) (v : Byte) :
    (s.setIo n v).cpu = s.cpu := rfl

@[simp] theorem State.setIo_ppu (s : State) (n : Nat) (v : Byte) :
    (s.setIo n v).ppu = s.ppu := rfl

@[simp] theorem State.setIo_faultLog (s : State) (n : Nat) (v : Byte) :
    (s.setIo n v).faultLog = s.faultLog := rfl

@[simp] theorem State.setIo_mcycles (s : State) (n : Nat) (v : Byte) :
    (s.setIo n v).mcycles = s.mcycles := rfl

@[simp] theorem State.setIo_start (s : State) (n : Nat) (v : Byte) :
    (s.setIo n v).start = s.start := rfl

@[simp] theorem State.setIo_bus_rom (s : State) (n : Nat) (v : Byte) :
    (s.setIo n v).bus.rom = s.bus.rom := rfl

@[simp] theorem State.setIo_bus_ext (s : State) (n : Nat) (v : Byte) :
    (s.setIo n v).bus.ext = s.bus.ext := rfl

@[simp] theorem State.setIo_bus_nRom (s : State) (n : Nat) (v : Byte) :
    (s.setIo n v).bus.nRom = s.bus.nRom := rfl

@[simp] theorem State.setIo_bus_nRam (s : State) (n : Nat) (v : Byte) :
    (s.setIo n v).bus.nRam = s.bus.nRam := rfl

@[simp] theorem State.setIo_bus_romBank (s : State) (n : Nat) (v : Byte) :
    (s.setIo n v).bus.romBank = s.bus.romBank := rfl

@[simp] theorem State.setIo_bus_ramBank (s : State) (n : Nat) (v : Byte) :
    (s.setIo n v).bus.ramBank = s.bus.ramBank := rfl

@[simp] theorem State.setIo_bus_ramEnable (s : State) (n : Nat) (v : Byte) :
    (s.setIo n v).bus.ramEnable = s.bus.ramEnable := rfl

@[simp] theorem State.setIo_bus_bootEnabled (s : State) (n : Nat) (v : Byte) :
    (s.setIo n v).bus.bootEnabled = s.bus.bootEnabled := rfl

@[simp] theorem State.setIo_bus_ie (s : State) (n : Nat) (v : Byte) :
    (s.setIo n v).bus.ie = s.bus.ie := rfl

@[simp] theorem State.setFbAt_cfg (s : State) (k : Nat) (v : BitVec 32) :
    (s.setFbAt k v).cfg = s.cfg := rfl

@[simp] theorem State.setFbAt_cpu (s : State) (k : Nat) (v : BitVec 32) :
    (s.setFbAt k v).cpu = s.cpu := rfl

@[simp] theorem State.setFbAt_bus (s : State) (k : Nat) (v : BitVec 32) :
    (s.setFbAt k v).bus = s.bus := rfl

@[simp] theorem State.setFbAt_faultLog (s : State) (k : Nat) (v : BitVec 32) :
    (s.setFbAt k v).faultLog = s.faultLog := rfl

@[simp] theorem State.setFbAt_mcycles (s : State) (k : Nat) (v : BitVec 32) :
    (s.setFbAt k v).mcycles = s.mcycles := rfl

@[simp] theorem State.setFbAt_start (s : State) (k : Nat) (v : BitVec 32) :
    (s.setFbAt k v).start = s.start := rfl

@[simp] theorem State.setFbAt_ppu_dot (s : State) (k : Nat) (v : BitVec 32) :
    (s.setFbAt k v).ppu.dot = s.ppu.dot := rfl

@[simp] theorem State.setFbAt_ppu_ly (s : State) (k : Nat) (v : BitVec 32) :
    (s.setFbAt k v).ppu.ly = s.ppu.ly := rfl

@[simp] theorem State.setFbAt_ppu_mode (s : State) (k : Nat) (v : BitVec 32) :
    (s.setFbAt k v).ppu.mode = s.ppu.mode := rfl

@[simp] theorem State.setFbAt_ppu_statLine (s : State) (k : Nat) (v : BitVec 32) :
    (s.setFbAt k v).ppu.statLine = s.ppu.statLine := rfl

/-! ## Registers -/

@[simp] theorem State.setPc_cfg (s : State) (v : Word) : (s.setPc v).cfg = s.cfg := rfl

@[simp] theorem State.setPc_bus (s : State) (v : Word) : (s.setPc v).bus = s.bus := rfl

@[simp] theorem State.setPc_ppu (s : State) (v : Word) : (s.setPc v).ppu = s.ppu := rfl

@[simp] theorem State.setPc_faultLog (s : State) (v : Word) :
    (s.setPc v).faultLog = s.faultLog := rfl

@[simp] theorem State.setPc_mcycles (s : State) (v : Word) :
    (s.setPc v).mcycles = s.mcycles := rfl

@[simp] theorem State.setPc_start (s : State) (v : Word) : (s.setPc v).start = s.start := rfl

@[simp] theorem State.setPc_cpu_a (s : State) (v : Word) : (s.setPc v).cpu.a = s.cpu.a := rfl

@[simp] theorem State.setPc_cpu_f (s : State) (v : Word) : (s.setPc v).cpu.f = s.cpu.f := rfl

@[simp] theorem State.setPc_cpu_b (s : State) (v : Word) : (s.setPc v).cpu.b = s.cpu.b := rfl

@[simp] theorem State.setPc_cpu_c (s : State) (v : Word) : (s.setPc v).cpu.c = s.cpu.c := rfl

@[simp] theorem State.setPc_cpu_d (s : State) (v : Word) : (s.setPc v).cpu.d = s.cpu.d := rfl

@[simp] theorem State.setPc_cpu_e (s : State) (v : Word) : (s.setPc v).cpu.e = s.cpu.e := rfl

@[simp] theorem State.setPc_cpu_h (s : State) (v : Word) : (s.setPc v).cpu.h = s.cpu.h := rfl

@[simp] theorem State.setPc_cpu_l (s : State) (v : Word) : (s.setPc v).cpu.l = s.cpu.l := rfl

@[simp] theorem State.setPc_cpu_sp (s : State) (v : Word) : (s.setPc v).cpu.sp = s.cpu.sp := rfl

@[simp] theorem State.setPc_cpu_pc (s : State) (v : Word) : (s.setPc v).cpu.pc = v := rfl

@[simp] theorem State.setPc_cpu_ime (s : State) (v : Word) :
    (s.setPc v).cpu.ime = s.cpu.ime := rfl

@[simp] theorem State.setPc_cpu_eiDelay (s : State) (v : Word) :
    (s.setPc v).cpu.eiDelay = s.cpu.eiDelay := rfl

@[simp] theorem State.setPc_cpu_halted (s : State) (v : Word) :
    (s.setPc v).cpu.halted = s.cpu.halted := rfl

@[simp] theorem State.setPc_cpu_stopped (s : State) (v : Word) :
    (s.setPc v).cpu.stopped = s.cpu.stopped := rfl

@[simp] theorem State.setPc_cpu_haltBug (s : State) (v : Word) :
    (s.setPc v).cpu.haltBug = s.cpu.haltBug := rfl

@[simp] theorem State.setPc_cpu_faulted (s : State) (v : Word) :
    (s.setPc v).cpu.faulted = s.cpu.faulted := rfl

@[simp] theorem State.setSp_cfg (s : State) (v : Word) : (s.setSp v).cfg = s.cfg := rfl

@[simp] theorem State.setSp_bus (s : State) (v : Word) : (s.setSp v).bus = s.bus := rfl

@[simp] theorem State.setSp_ppu (s : State) (v : Word) : (s.setSp v).ppu = s.ppu := rfl

@[simp] theorem State.setSp_faultLog (s : State) (v : Word) :
    (s.setSp v).faultLog = s.faultLog := rfl

@[simp] theorem State.setSp_mcycles (s : State) (v : Word) :
    (s.setSp v).mcycles = s.mcycles := rfl

@[simp] theorem State.setSp_start (s : State) (v : Word) : (s.setSp v).start = s.start := rfl

@[simp] theorem State.setSp_cpu_a (s : State) (v : Word) : (s.setSp v).cpu.a = s.cpu.a := rfl

@[simp] theorem State.setSp_cpu_f (s : State) (v : Word) : (s.setSp v).cpu.f = s.cpu.f := rfl

@[simp] theorem State.setSp_cpu_b (s : State) (v : Word) : (s.setSp v).cpu.b = s.cpu.b := rfl

@[simp] theorem State.setSp_cpu_c (s : State) (v : Word) : (s.setSp v).cpu.c = s.cpu.c := rfl

@[simp] theorem State.setSp_cpu_d (s : State) (v : Word) : (s.setSp v).cpu.d = s.cpu.d := rfl

@[simp] theorem State.setSp_cpu_e (s : State) (v : Word) : (s.setSp v).cpu.e = s.cpu.e := rfl

@[simp] theorem State.setSp_cpu_h (s : State) (v : Word) : (s.setSp v).cpu.h = s.cpu.h := rfl

@[simp] theorem State.setSp_cpu_l (s : State) (v : Word) : (s.setSp v).cpu.l = s.cpu.l := rfl

@[simp] theorem State.setSp_cpu_sp (s : State) (v : Word) : (s.setSp v).cpu.sp = v := rfl

@[simp] theorem State.setSp_cpu_pc (s : State) (v : Word) : (s.setSp v).cpu.pc = s.cpu.pc := rfl

@[simp] theorem State.setSp_cpu_ime (s : State) (v : Word) :
    (s.setSp v).cpu.ime = s.cpu.ime := rfl

@[simp] theorem State.setSp_cpu_eiDelay (s : State) (v : Word) :
    (s.setSp v).cpu.eiDelay = s.cpu.eiDelay := rfl

@[simp] theorem State.setSp_cpu_halted (s : State) (v : Word) :
    (s.setSp v).cpu.halted = s.cpu.halted := rfl

@[simp] theorem State.setSp_cpu_stopped (s : State) (v : Word) :
    (s.setSp v).cpu.stopped = s.cpu.stopped := rfl

@[simp] theorem State.setSp_cpu_haltBug (s : State) (v : Word) :
    (s.setSp v).cpu.haltBug = s.cpu.haltBug := rfl

@[simp] theorem State.setSp_cpu_faulted (s : State) (v : Word) :
    (s.setSp v).cpu.faulted = s.cpu.faulted := rfl

@[simp] theorem State.setCycles_cfg (s : State) (n : Nat) : (s.setCycles n).cfg = s.cfg := rfl

@[simp] theorem State.setCycles_cpu (s : State) (n : Nat) : (s.setCycles n).cpu = s.cpu := rfl

@[simp] theorem State.setCycles_bus (s : State) (n : Nat) : (s.setCycles n).bus = s.bus := rfl

@[simp] theorem State.setCycles_ppu (s : State) (n : Nat) : (s.setCycles n).ppu = s.ppu := rfl

@[simp] theorem State.setCycles_faultLog (s : State) (n : Nat) :
    (s.setCycles n).faultLog = s.faultLog := rfl

@[simp] theorem State.setCycles_start (s : State) (n : Nat) :
    (s.setCycles n).start = s.start := rfl

@[simp] theorem State.setCycles_mcycles (s : State) (n : Nat) : (s.setCycles n).mcycles = n := rfl

@[simp] theorem State.setFlags_cfg (s : State) (z n h c : Bool) :
    (s.setFlags z n h c).cfg = s.cfg := rfl

@[simp] theorem State.setFlags_bus (s : State) (z n h c : Bool) :
    (s.setFlags z n h c).bus = s.bus := rfl

@[simp] theorem State.setFlags_ppu (s : State) (z n h c : Bool) :
    (s.setFlags z n h c).ppu = s.ppu := rfl

@[simp] theorem State.setFlags_faultLog (s : State) (z n h c : Bool) :
    (s.setFlags z n h c).faultLog = s.faultLog := rfl

@[simp] theorem State.setFlags_mcycles (s : State) (z n h c : Bool) :
    (s.setFlags z n h c).mcycles = s.mcycles := rfl

@[simp] theorem State.setFlags_start (s : State) (z n h c : Bool) :
    (s.setFlags z n h c).start = s.start := rfl

@[simp] theorem State.setFlags_cpu_a (s : State) (z n h c : Bool) :
    (s.setFlags z n h c).cpu.a = s.cpu.a := rfl

@[simp] theorem State.setFlags_cpu_f (s : State) (z n h c : Bool) :
    (s.setFlags z n h c).cpu.f = packFlags z n h c := rfl

@[simp] theorem State.setFlags_cpu_b (s : State) (z n h c : Bool) :
    (s.setFlags z n h c).cpu.b = s.cpu.b := rfl

@[simp] theorem State.setFlags_cpu_c (s : State) (z n h c : Bool) :
    (s.setFlags z n h c).cpu.c = s.cpu.c := rfl

@[simp] theorem State.setFlags_cpu_d (s : State) (z n h c : Bool) :
    (s.setFlags z n h c).cpu.d = s.cpu.d := rfl

@[simp] theorem State.setFlags_cpu_e (s : State) (z n h c : Bool) :
    (s.setFlags z n h c).cpu.e = s.cpu.e := rfl

@[simp] theorem State.setFlags_cpu_h (s : State) (z n h c : Bool) :
    (s.setFlags z n h c).cpu.h = s.cpu.h := rfl

@[simp] theorem State.setFlags_cpu_l (s : State) (z n h c : Bool) :
    (s.setFlags z n h c).cpu.l = s.cpu.l := rfl

@[simp] theorem State.setFlags_cpu_sp (s : State) (z n h c : Bool) :
    (s.setFlags z n h c).cpu.sp = s.cpu.sp := rfl

@[simp] theorem State.setFlags_cpu_pc (s : State) (z n h c : Bool) :
    (s.setFlags z n h c).cpu.pc = s.cpu.pc := rfl

@[simp] theorem State.setFlags_cpu_ime (s : State) (z n h c : Bool) :
    (s.setFlags z n h c).cpu.ime = s.cpu.ime := rfl

@[simp] theorem State.setFlags_cpu_eiDelay (s : State) (z n h c : Bool) :
    (s.setFlags z n h c).cpu.eiDelay = s.cpu.eiDelay := rfl

@[simp] theorem State.setFlags_cpu_halted (s : State) (z n h c : Bool) :
    (s.setFlags z n h c).cpu.halted = s.cpu.halted := rfl

@[simp] theorem State.setFlags_cpu_stopped (s : State) (z n h c : Bool) :
    (s.setFlags z n h c).cpu.stopped = s.cpu.stopped := rfl

@[simp] theorem State.setFlags_cpu_haltBug (s : State) (z n h c : Bool) :
    (s.setFlags z n h c).cpu.haltBug = s.cpu.haltBug := rfl

@[simp] theorem State.setFlags_cpu_faulted (s : State) (z n h c : Bool) :
    (s.setFlags z n h c).cpu.faulted = s.cpu.faulted := rfl

@[simp] theorem State.setReg8_cfg (s : State) (r : Reg8) (v : Byte) :
    (s.setReg8 r v).cfg = s.cfg := by
  cases r <;> rfl

@[simp] theorem State.setReg8_bus (s : State) (r : Reg8) (v : Byte) :
    (s.setReg8 r v).bus = s.bus := by
  cases r <;> rfl

@[simp] theorem State.setReg8_ppu (s : State) (r : Reg8) (v : Byte) :
    (s.setReg8 r v).ppu = s.ppu := by
  cases r <;> rfl

@[simp] theorem State.setReg8_faultLog (s : State) (r : Reg8) (v : Byte) :
    (s.setReg8 r v).faultLog = s.faultLog := by
  cases r <;> rfl

@[simp] theorem State.setReg8_mcycles (s : State) (r : Reg8) (v : Byte) :
    (s.setReg8 r v).mcycles = s.mcycles := by
  cases r <;> rfl

@[simp] theorem State.setReg8_start (s : State) (r : Reg8) (v : Byte) :
    (s.setReg8 r v).start = s.start := by
  cases r <;> rfl

@[simp] theorem State.setReg8_cpu_f (s : State) (r : Reg8) (v : Byte) :
    (s.setReg8 r v).cpu.f = s.cpu.f := by
  cases r <;> rfl

@[simp] theorem State.setReg8_cpu_sp (s : State) (r : Reg8) (v : Byte) :
    (s.setReg8 r v).cpu.sp = s.cpu.sp := by
  cases r <;> rfl

@[simp] theorem State.setReg8_cpu_pc (s : State) (r : Reg8) (v : Byte) :
    (s.setReg8 r v).cpu.pc = s.cpu.pc := by
  cases r <;> rfl

@[simp] theorem State.setReg8_cpu_ime (s : State) (r : Reg8) (v : Byte) :
    (s.setReg8 r v).cpu.ime = s.cpu.ime := by
  cases r <;> rfl

@[simp] theorem State.setReg8_cpu_eiDelay (s : State) (r : Reg8) (v : Byte) :
    (s.setReg8 r v).cpu.eiDelay = s.cpu.eiDelay := by
  cases r <;> rfl

@[simp] theorem State.setReg8_cpu_halted (s : State) (r : Reg8) (v : Byte) :
    (s.setReg8 r v).cpu.halted = s.cpu.halted := by
  cases r <;> rfl

@[simp] theorem State.setReg8_cpu_stopped (s : State) (r : Reg8) (v : Byte) :
    (s.setReg8 r v).cpu.stopped = s.cpu.stopped := by
  cases r <;> rfl

@[simp] theorem State.setReg8_cpu_haltBug (s : State) (r : Reg8) (v : Byte) :
    (s.setReg8 r v).cpu.haltBug = s.cpu.haltBug := by
  cases r <;> rfl

@[simp] theorem State.setReg8_cpu_faulted (s : State) (r : Reg8) (v : Byte) :
    (s.setReg8 r v).cpu.faulted = s.cpu.faulted := by
  cases r <;> rfl

@[simp] theorem State.setReg16_cfg (s : State) (rr : Reg16) (v : Word) :
    (s.setReg16 rr v).cfg = s.cfg := by
  cases rr <;> rfl

@[simp] theorem State.setReg16_bus (s : State) (rr : Reg16) (v : Word) :
    (s.setReg16 rr v).bus = s.bus := by
  cases rr <;> rfl

@[simp] theorem State.setReg16_ppu (s : State) (rr : Reg16) (v : Word) :
    (s.setReg16 rr v).ppu = s.ppu := by
  cases rr <;> rfl

@[simp] theorem State.setReg16_faultLog (s : State) (rr : Reg16) (v : Word) :
    (s.setReg16 rr v).faultLog = s.faultLog := by
  cases rr <;> rfl

@[simp] theorem State.setReg16_mcycles (s : State) (rr : Reg16) (v : Word) :
    (s.setReg16 rr v).mcycles = s.mcycles := by
  cases rr <;> rfl

@[simp] theorem State.setReg16_start (s : State) (rr : Reg16) (v : Word) :
    (s.setReg16 rr v).start = s.start := by
  cases rr <;> rfl

@[simp] theorem State.setReg16_cpu_a (s : State) (rr : Reg16) (v : Word) :
    (s.setReg16 rr v).cpu.a = s.cpu.a := by
  cases rr <;> rfl

@[simp] theorem State.setReg16_cpu_f (s : State) (rr : Reg16) (v : Word) :
    (s.setReg16 rr v).cpu.f = s.cpu.f := by
  cases rr <;> rfl

@[simp] theorem State.setReg16_cpu_pc (s : State) (rr : Reg16) (v : Word) :
    (s.setReg16 rr v).cpu.pc = s.cpu.pc := by
  cases rr <;> rfl

@[simp] theorem State.setReg16_cpu_ime (s : State) (rr : Reg16) (v : Word) :
    (s.setReg16 rr v).cpu.ime = s.cpu.ime := by
  cases rr <;> rfl

@[simp] theorem State.setReg16_cpu_eiDelay (s : State) (rr : Reg16) (v : Word) :
    (s.setReg16 rr v).cpu.eiDelay = s.cpu.eiDelay := by
  cases rr <;> rfl

@[simp] theorem State.setReg16_cpu_halted (s : State) (rr : Reg16) (v : Word) :
    (s.setReg16 rr v).cpu.halted = s.cpu.halted := by
  cases rr <;> rfl

@[simp] theorem State.setReg16_cpu_stopped (s : State) (rr : Reg16) (v : Word) :
    (s.setReg16 rr v).cpu.stopped = s.cpu.stopped := by
  cases rr <;> rfl

@[simp] theorem State.setReg16_cpu_haltBug (s : State) (rr : Reg16) (v : Word) :
    (s.setReg16 rr v).cpu.haltBug = s.cpu.haltBug := by
  cases rr <;> rfl

@[simp] theorem State.setReg16_cpu_faulted (s : State) (rr : Reg16) (v : Word) :
    (s.setReg16 rr v).cpu.faulted = s.cpu.faulted := by
  cases rr <;> rfl

@[simp] theorem State.setReg16Stack_cfg (s : State) (qq : Reg16Stack) (v : Word) :
    (s.setReg16Stack qq v).cfg = s.cfg := by
  cases qq <;> rfl

@[simp] theorem State.setReg16Stack_bus (s : State) (qq : Reg16Stack) (v : Word) :
    (s.setReg16Stack qq v).bus = s.bus := by
  cases qq <;> rfl

@[simp] theorem State.setReg16Stack_ppu (s : State) (qq : Reg16Stack) (v : Word) :
    (s.setReg16Stack qq v).ppu = s.ppu := by
  cases qq <;> rfl

@[simp] theorem State.setReg16Stack_faultLog (s : State) (qq : Reg16Stack) (v : Word) :
    (s.setReg16Stack qq v).faultLog = s.faultLog := by
  cases qq <;> rfl

@[simp] theorem State.setReg16Stack_mcycles (s : State) (qq : Reg16Stack) (v : Word) :
    (s.setReg16Stack qq v).mcycles = s.mcycles := by
  cases qq <;> rfl

@[simp] theorem State.setReg16Stack_start (s : State) (qq : Reg16Stack) (v : Word) :
    (s.setReg16Stack qq v).start = s.start := by
  cases qq <;> rfl

@[simp] theorem State.setReg16Stack_cpu_sp (s : State) (qq : Reg16Stack) (v : Word) :
    (s.setReg16Stack qq v).cpu.sp = s.cpu.sp := by
  cases qq <;> rfl

@[simp] theorem State.setReg16Stack_cpu_pc (s : State) (qq : Reg16Stack) (v : Word) :
    (s.setReg16Stack qq v).cpu.pc = s.cpu.pc := by
  cases qq <;> rfl

@[simp] theorem State.setReg16Stack_cpu_ime (s : State) (qq : Reg16Stack) (v : Word) :
    (s.setReg16Stack qq v).cpu.ime = s.cpu.ime := by
  cases qq <;> rfl

@[simp] theorem State.setReg16Stack_cpu_eiDelay (s : State) (qq : Reg16Stack) (v : Word) :
    (s.setReg16Stack qq v).cpu.eiDelay = s.cpu.eiDelay := by
  cases qq <;> rfl

@[simp] theorem State.setReg16Stack_cpu_halted (s : State) (qq : Reg16Stack) (v : Word) :
    (s.setReg16Stack qq v).cpu.halted = s.cpu.halted := by
  cases qq <;> rfl

@[simp] theorem State.setReg16Stack_cpu_stopped (s : State) (qq : Reg16Stack) (v : Word) :
    (s.setReg16Stack qq v).cpu.stopped = s.cpu.stopped := by
  cases qq <;> rfl

@[simp] theorem State.setReg16Stack_cpu_haltBug (s : State) (qq : Reg16Stack) (v : Word) :
    (s.setReg16Stack qq v).cpu.haltBug = s.cpu.haltBug := by
  cases qq <;> rfl

@[simp] theorem State.setReg16Stack_cpu_faulted (s : State) (qq : Reg16Stack) (v : Word) :
    (s.setReg16Stack qq v).cpu.faulted = s.cpu.faulted := by
  cases qq <;> rfl

/-! ## Reading a register that was just written -/

theorem State.reg8_setReg8 (s : State) (d r : Reg8) (v : Byte) :
    (s.setReg8 d v).reg8 r = if r = d then v else s.reg8 r := by
  cases d <;> cases r <;> rfl

@[simp] theorem State.reg8_setReg8_same (s : State) (r : Reg8) (v : Byte) :
    (s.setReg8 r v).reg8 r = v := by
  cases r <;> rfl

@[simp] theorem State.reg8_setFlags (s : State) (r : Reg8) (z n h c : Bool) :
    (s.setFlags z n h c).reg8 r = s.reg8 r := by
  cases r <;> rfl

@[simp] theorem State.reg8_setCycles (s : State) (r : Reg8) (n : Nat) :
    (s.setCycles n).reg8 r = s.reg8 r := by
  cases r <;> rfl

@[simp] theorem State.reg8_setPc (s : State) (r : Reg8) (v : Word) :
    (s.setPc v).reg8 r = s.reg8 r := by
  cases r <;> rfl

@[simp] theorem State.reg8_setSp (s : State) (r : Reg8) (v : Word) :
    (s.setSp v).reg8 r = s.reg8 r := by
  cases r <;> rfl

/-- The registers depend on the CPU part of the state alone. -/
theorem State.reg8_congr {s t : State} (h : t.cpu = s.cpu) (r : Reg8) : t.reg8 r = s.reg8 r := by
  cases r <;> simp [State.reg8, h]

/-- The pairs depend on the CPU part of the state alone. -/
theorem State.reg16_congr {s t : State} (h : t.cpu = s.cpu) (rr : Reg16) :
    t.reg16 rr = s.reg16 rr := by
  cases rr <;> simp [State.reg16, State.bc, State.de, State.hl, h]

/-! ## Storage reads after updates elsewhere -/

/-- Internal storage is read from the bus part of the state alone. -/
theorem State.memAt_congr {s t : State} (h : t.bus.mem = s.bus.mem) (k : Nat) :
    t.memAt k = s.memAt k := by
  simp [State.memAt, h]

/-- The stored I/O bytes are read from the bus part of the state alone. -/
theorem State.io_congr {s t : State} (h : t.bus.mem = s.bus.mem) (n : Nat) : t.io n = s.io n :=
  State.memAt_congr h _

end Sys2Proof.Machine
end

