-- ==== Sys2Proof/Laws/Ops.lean ====
section
/-!
SUPPORT. The shared operations of the bus, the stack and the fetch: what each can do, once.
-/

namespace Sys2Proof.Machine

/-! ## Keeping the bus as it should be -/

theorem BusOk.setMemAt {s : State} (h : BusOk s.cfg s.bus) {k : Nat} (hk : isInternal k = true)
    (v : Byte) : BusOk (s.setMemAt k v).cfg (s.setMemAt k v).bus :=
  { h with
    mem_wf := Memory.wf_set .internal k v h.mem_wf
    mem_keys := Cells.keys_set (fun j => isInternal j = true) v hk h.mem_keys }

theorem BusOk.setExtAt {s : State} (h : BusOk s.cfg s.bus) {b o : Nat} (hb : b < s.bus.nRam)
    (ho : o < 8192) (v : Byte) : BusOk (s.setExtAt b o v).cfg (s.setExtAt b o v).bus :=
  { h with
    ext_wf := Memory.wf_set .cartRam (8192 * b + o) v h.ext_wf
    ext_keys := Cells.keys_set (fun j => j < 8192 * s.bus.nRam) v
      (show 8192 * b + o < 8192 * s.bus.nRam by omega) h.ext_keys }

theorem isInternal_iff (k : Nat) : isInternal k = true ↔
    (0x8000 ≤ k ∧ k ≤ 0x9FFF) ∨ (0xC000 ≤ k ∧ k ≤ 0xDFFF) ∨ (0xFE00 ≤ k ∧ k ≤ 0xFE9F) ∨
      (0xFF00 ≤ k ∧ k ≤ 0xFFFE) := by
  simp [isInternal, or_assoc]

theorem isInternal_io {n : Nat} (h : n ≤ 0x7F) : isInternal (0xFF00 + n) = true :=
  (isInternal_iff _).mpr (by omega)

/-! ## The bus write (R230) -/

/-- Everything a bus write can do: what each storage, banking and boot update keeps, it keeps. -/
theorem memWrite_keeps {P : State → Prop} (a : Word) (v : Byte) {s : State} (h0 : P s)
    (hmem : ∀ t k w, isInternal k = true → P t → P (t.setMemAt k w))
    (hext : ∀ t o w, o < 8192 → t.bus.ramBank.toNat < t.bus.nRam → P t →
      P (t.setExtAt t.bus.ramBank.toNat o w))
    (hen : ∀ t w, P t → P (ramEnableWrite w t))
    (hrom : ∀ t w, P t → P (romBankWrite w t))
    (hram : ∀ t w, P t → P (ramBankWrite w t))
    (hboot : ∀ t w, P t → P (bootWrite w t))
    (hie : ∀ (t : State) (w : Byte), P t → P { t with bus := { t.bus with ie := w } }) :
    P (memWrite a v s) := by
  have hio : ∀ t n w, n ≤ 0x7F → P t → P (t.setIo n w) := fun t n w hn ht =>
    hmem t _ w (isInternal_io hn) ht
  have hcopy : ∀ (l : List Nat) (src : Word) (t : State), (∀ i ∈ l, i < 160) → P t →
      P (l.foldl (oamCopyByte src) t) := by
    intro l
    induction l with
    | nil => intro _ _ _ ht; exact ht
    | cons i l ih =>
      intro src t hl ht
      have h1 : i < 160 := hl i (by simp)
      exact ih src _ (fun j hj => hl j (by simp [hj]))
        (hmem _ _ _ ((isInternal_iff _).mpr (by omega)) ht)
  have hioWrite : ∀ n, n ≤ 0x7F → P (ioWrite n v s) := by
    intro n hn
    unfold ioWrite
    refine iteInduction (motive := P) (fun _ => hio _ _ _ (by omega) h0) (fun _ => ?_)
    refine iteInduction (motive := P) (fun _ => hio _ _ _ (by omega) h0) (fun _ => ?_)
    refine iteInduction (motive := P) (fun _ => h0) (fun _ => ?_)
    refine iteInduction (motive := P) (fun _ => ?_) (fun _ => ?_)
    · simp only [dmaWrite]
      split
      · exact hcopy _ _ _ (fun i hi => List.mem_range.mp hi) (hio _ _ _ (by omega) h0)
      · exact hio _ _ _ (by omega) h0
    · exact iteInduction (motive := P) (fun _ => hboot _ _ h0) (fun _ => hio _ _ _ hn h0)
  have hk := a.isLt
  have hkeys : ∀ k w, (0x8000 ≤ k ∧ k ≤ 0x9FFF) ∨ (0xC000 ≤ k ∧ k ≤ 0xDFFF) ∨
      (0xFE00 ≤ k ∧ k ≤ 0xFE9F) ∨ (0xFF00 ≤ k ∧ k ≤ 0xFFFE) → P (s.setMemAt k w) :=
    fun k w hk => hmem s k w ((isInternal_iff k).mpr hk) h0
  unfold memWrite
  refine iteInduction (motive := P) (fun _ => hen _ _ h0) (fun h1 => ?_)
  refine iteInduction (motive := P) (fun _ => hrom _ _ h0) (fun h2 => ?_)
  refine iteInduction (motive := P) (fun _ => hram _ _ h0) (fun h3 => ?_)
  refine iteInduction (motive := P) (fun _ => h0) (fun h4 => ?_)
  refine iteInduction (motive := P) (fun _ => hkeys _ _ (by omega)) (fun h5 => ?_)
  refine iteInduction (motive := P) (fun _ => ?_) (fun h6 => ?_)
  · exact iteInduction (motive := P) (fun h => hext _ _ _ (by omega) h.2 h0) (fun _ => h0)
  refine iteInduction (motive := P) (fun _ => hkeys _ _ (by omega)) (fun h7 => ?_)
  refine iteInduction (motive := P) (fun _ => hkeys _ _ (by omega)) (fun h8 => ?_)
  refine iteInduction (motive := P) (fun _ => hkeys _ _ (by omega)) (fun h9 => ?_)
  refine iteInduction (motive := P) (fun _ => h0) (fun h10 => ?_)
  refine iteInduction (motive := P) (fun _ => hioWrite _ (by omega)) (fun h11 => ?_)
  exact iteInduction (motive := P) (fun _ => hkeys _ _ (by omega)) (fun _ => hie _ _ h0)

/-- What no bus write touches: everything but the bus, and of the bus the ROM and the bank counts
(R231, R254). -/
structure SameOutsideBus (s t : State) : Prop where
  cfg : t.cfg = s.cfg
  cpu : t.cpu = s.cpu
  ppu : t.ppu = s.ppu
  faultLog : t.faultLog = s.faultLog
  mcycles : t.mcycles = s.mcycles
  start : t.start = s.start
  rom : t.bus.rom = s.bus.rom
  nRom : t.bus.nRom = s.bus.nRom
  nRam : t.bus.nRam = s.bus.nRam

theorem memWrite_sameOutsideBus (a : Word) (v : Byte) (s : State) :
    SameOutsideBus s (memWrite a v s) := by
  refine memWrite_keeps a v ⟨rfl, rfl, rfl, rfl, rfl, rfl, rfl, rfl, rfl⟩ ?_ ?_ ?_ ?_ ?_ ?_ ?_
  · exact fun t k w _ h => { h with }
  · exact fun t o w _ _ h => { h with }
  · exact fun t w h => { h with }
  · exact fun t w h => { h with }
  · exact fun t w h => { h with }
  · intro t w h
    simp only [bootWrite]
    split
    · exact { h with }
    · exact h
  · exact fun t w h => { h with }

@[simp] theorem memWrite_cfg (a : Word) (v : Byte) (s : State) : (memWrite a v s).cfg = s.cfg :=
  (memWrite_sameOutsideBus a v s).cfg
@[simp] theorem memWrite_cpu (a : Word) (v : Byte) (s : State) : (memWrite a v s).cpu = s.cpu :=
  (memWrite_sameOutsideBus a v s).cpu
@[simp] theorem memWrite_ppu (a : Word) (v : Byte) (s : State) : (memWrite a v s).ppu = s.ppu :=
  (memWrite_sameOutsideBus a v s).ppu
@[simp] theorem memWrite_faultLog (a : Word) (v : Byte) (s : State) :
    (memWrite a v s).faultLog = s.faultLog :=
  (memWrite_sameOutsideBus a v s).faultLog
@[simp] theorem memWrite_mcycles (a : Word) (v : Byte) (s : State) :
    (memWrite a v s).mcycles = s.mcycles :=
  (memWrite_sameOutsideBus a v s).mcycles
@[simp] theorem memWrite_start (a : Word) (v : Byte) (s : State) :
    (memWrite a v s).start = s.start :=
  (memWrite_sameOutsideBus a v s).start
@[simp] theorem memWrite_rom (a : Word) (v : Byte) (s : State) :
    (memWrite a v s).bus.rom = s.bus.rom :=
  (memWrite_sameOutsideBus a v s).rom
@[simp] theorem memWrite_nRom (a : Word) (v : Byte) (s : State) :
    (memWrite a v s).bus.nRom = s.bus.nRom :=
  (memWrite_sameOutsideBus a v s).nRom
@[simp] theorem memWrite_nRam (a : Word) (v : Byte) (s : State) :
    (memWrite a v s).bus.nRam = s.bus.nRam :=
  (memWrite_sameOutsideBus a v s).nRam

/-- ROM bank 0 is never selected (R242, R245). -/
theorem romBankWrite_ne_zero (v : Byte) (s : State) : (romBankWrite v s).bus.romBank ≠ 0#5 := by
  simp only [romBankWrite]
  split
  · decide
  · next h => exact h

/-- A bus write keeps the bus as it should be: canonical stores, no foreign location, no bank 0. -/
theorem BusOk.memWrite {s : State} (h : BusOk s.cfg s.bus) (a : Word) (v : Byte) :
    BusOk (memWrite a v s).cfg (memWrite a v s).bus := by
  refine memWrite_keeps (P := fun t => BusOk t.cfg t.bus) a v h ?_ ?_ ?_ ?_ ?_ ?_ ?_
  · exact fun t k w hk h => h.setMemAt hk w
  · exact fun t o w ho hb h => h.setExtAt hb ho w
  · exact fun t w h => { h with }
  · exact fun t w h => { h with rom_bank := romBankWrite_ne_zero w t }
  · exact fun t w h => { h with }
  · intro t w h
    simp only [bootWrite]
    split
    · exact { h with boot := fun hb => by simp at hb }
    · exact h
  · exact fun t w h => { h with }

/-- No bus write turns the boot shadow on (R122, R232). -/
theorem memWrite_bootEnabled (a : Word) (v : Byte) (s : State)
    (h : (memWrite a v s).bus.bootEnabled = true) : s.bus.bootEnabled = true := by
  revert h
  refine memWrite_keeps (P := fun t => t.bus.bootEnabled = true → s.bus.bootEnabled = true)
    a v id ?_ ?_ ?_ ?_ ?_ ?_ ?_
  · exact fun t k w _ h => h
  · exact fun t o w _ _ h => h
  · exact fun t w h => h
  · exact fun t w h => h
  · exact fun t w h => h
  · intro t w h
    simp only [bootWrite]
    split
    · intro hb; simp at hb
    · exact h
  · exact fun t w h => h

end Sys2Proof.Machine
end

