-- ==== Sys2Proof/Laws/Bus.lean ====
section
/-!
SUPPORT. Reads after writes on the bus: plain storage reads back what was written and leaves every
other address alone.
-/

namespace Sys2Proof.Machine

/-- Stores a byte at a place. -/
def storePlace (p : Place) (v : Byte) (s : State) : State :=
  match p with
  | .internal k => s.setMemAt k v
  | .cartRam b o => s.setExtAt b o v
  | .ie => { s with bus := { s.bus with ie := v } }

/-- The regions of `plainPlace`, by the address. -/
theorem plainPlace_cases {s : State} {a : Word} {p : Place} (h : plainPlace s a = some p) :
    (0x8000 ≤ a.toNat ∧ a.toNat ≤ 0x9FFF ∧ p = .internal a.toNat) ∨
    (0xA000 ≤ a.toNat ∧ a.toNat ≤ 0xBFFF ∧ s.bus.ramEnable = true ∧
      s.bus.ramBank.toNat < s.bus.nRam ∧ p = .cartRam s.bus.ramBank.toNat (a.toNat - 0xA000)) ∨
    (0xC000 ≤ a.toNat ∧ a.toNat ≤ 0xDFFF ∧ p = .internal a.toNat) ∨
    (0xE000 ≤ a.toNat ∧ a.toNat ≤ 0xFDFF ∧ p = .internal (a.toNat - 0x2000)) ∨
    (0xFE00 ≤ a.toNat ∧ a.toNat ≤ 0xFE9F ∧ p = .internal a.toNat) ∨
    (0xFF00 ≤ a.toNat ∧ a.toNat ≤ 0xFF7F ∧ specialIo a.toNat = false ∧ p = .internal a.toNat) ∨
    (0xFF80 ≤ a.toNat ∧ a.toNat ≤ 0xFFFE ∧ p = .internal a.toNat) ∨
    (a.toNat = 0xFFFF ∧ p = .ie) := by
  have ha := a.isLt
  unfold plainPlace at h
  simp only [] at h
  repeat' (split at h)
  all_goals (first | (cases h; done) | (cases h))
  · exact .inl ⟨by omega, by omega, rfl⟩
  · next h1 => exact .inr (.inl ⟨by omega, by omega, h1.1, h1.2, rfl⟩)
  · exact .inr (.inr (.inl ⟨by omega, by omega, rfl⟩))
  · exact .inr (.inr (.inr (.inl ⟨by omega, by omega, rfl⟩)))
  · exact .inr (.inr (.inr (.inr (.inl ⟨by omega, by omega, rfl⟩))))
  · next h1 h2 =>
    by_cases h3 : a.toNat ≤ 0xFF7F
    · exact .inr (.inr (.inr (.inr (.inr (.inl ⟨by omega, h3, by simpa using h1, rfl⟩)))))
    · exact .inr (.inr (.inr (.inr (.inr (.inr (.inl ⟨by omega, h2, rfl⟩))))))
  · exact .inr (.inr (.inr (.inr (.inr (.inr (.inr ⟨by omega, rfl⟩))))))

theorem specialIo_iff (k : Nat) : specialIo k = true ↔
    k = 0xFF0F ∨ k = 0xFF41 ∨ k = 0xFF44 ∨ k = 0xFF45 ∨ k = 0xFF46 ∨ k = 0xFF50 := by
  simp [specialIo, or_assoc]

/-- What the byte at a place is. -/
def readPlace (p : Place) (s : State) : Byte :=
  match p with
  | .internal k => s.memAt k
  | .cartRam b o => s.extAt b o
  | .ie => s.bus.ie

/-- A place of internal storage is not a special register. -/
def Place.plain (p : Place) : Prop :=
  match p with
  | .internal k => isInternal k = true ∧ specialIo k = false
  | .cartRam _ o => o < 8192
  | .ie => True

theorem ioWrite_plain {k : Nat} (h1 : 0xFF00 ≤ k) (h : specialIo k = false) (v : Byte)
    (s : State) : ioWrite (k - 0xFF00) v s = s.setMemAt k v := by
  have h2 := (not_congr (specialIo_iff k)).mp (by simp [h])
  simp only [ioWrite]
  repeat rw [if_neg (by omega)]
  rw [State.setIo, show 0xFF00 + (k - 0xFF00) = k by omega]

theorem ioRead_plain {k : Nat} (h1 : 0xFF00 ≤ k) (h : specialIo k = false) (s : State) :
    ioRead s (k - 0xFF00) = s.memAt k := by
  have h2 := (not_congr (specialIo_iff k)).mp (by simp [h])
  simp only [ioRead]
  repeat rw [if_neg (by omega)]
  rw [State.io, show 0xFF00 + (k - 0xFF00) = k by omega]

theorem plainPlace_plain {s : State} {a : Word} {p : Place} (h : plainPlace s a = some p) :
    p.plain := by
  have hs := specialIo_iff a.toNat
  rcases plainPlace_cases h with ⟨h1, h2, rfl⟩ | ⟨h1, h2, -, -, rfl⟩ | ⟨h1, h2, rfl⟩ |
    ⟨h1, h2, rfl⟩ | ⟨h1, h2, rfl⟩ | ⟨h1, h2, h3, rfl⟩ | ⟨h1, h2, rfl⟩ | ⟨-, rfl⟩
  · exact ⟨(isInternal_iff _).mpr (by omega), by simpa using (not_congr hs).mpr (by omega)⟩
  · show a.toNat - 0xA000 < 8192
    omega
  · exact ⟨(isInternal_iff _).mpr (by omega), by simpa using (not_congr hs).mpr (by omega)⟩
  · exact ⟨(isInternal_iff _).mpr (by omega),
      by simpa using (not_congr (specialIo_iff (a.toNat - 0x2000))).mpr (by omega)⟩
  · exact ⟨(isInternal_iff _).mpr (by omega), by simpa using (not_congr hs).mpr (by omega)⟩
  · exact ⟨(isInternal_iff _).mpr (by omega), h3⟩
  · exact ⟨(isInternal_iff _).mpr (by omega), by simpa using (not_congr hs).mpr (by omega)⟩
  · trivial

/-- A write to plain storage replaces that byte and does nothing else (R230, R234). -/
theorem memWrite_of_plain {s : State} {a : Word} {p : Place} (h : plainPlace s a = some p)
    (v : Byte) : memWrite a v s = storePlace p v s := by
  rcases plainPlace_cases h with ⟨h1, h2, rfl⟩ | ⟨h1, h2, h3, h4, rfl⟩ | ⟨h1, h2, rfl⟩ |
    ⟨h1, h2, rfl⟩ | ⟨h1, h2, rfl⟩ | ⟨h1, h2, h3, rfl⟩ | ⟨h1, h2, rfl⟩ | ⟨h1, rfl⟩
  · exact memWrite_vram h1 h2 v s
  · rw [memWrite_ext h1 h2 v s, if_pos ⟨h3, h4⟩]
    rfl
  · exact memWrite_wram h1 h2 v s
  · exact memWrite_echo h1 h2 v s
  · exact memWrite_oam h1 h2 v s
  · rw [memWrite_io h1 h2 v s, ioWrite_plain h1 h3]
    rfl
  · exact memWrite_hram h1 h2 v s
  · exact memWrite_ie h1 v s

/-- A read of plain storage gives that byte (R210). -/
theorem memRead_of_plain {s : State} {a : Word} {p : Place} (h : plainPlace s a = some p) :
    memRead s a = readPlace p s := by
  rcases plainPlace_cases h with ⟨h1, h2, rfl⟩ | ⟨h1, h2, h3, h4, rfl⟩ | ⟨h1, h2, rfl⟩ |
    ⟨h1, h2, rfl⟩ | ⟨h1, h2, rfl⟩ | ⟨h1, h2, h3, rfl⟩ | ⟨h1, h2, rfl⟩ | ⟨h1, rfl⟩
  · exact memRead_vram h1 h2 s
  · rw [memRead_ext h1 h2 s, if_pos ⟨h3, h4⟩]
    rfl
  · exact memRead_wram h1 h2 s
  · exact memRead_echo h1 h2 s
  · exact memRead_oam h1 h2 s
  · rw [memRead_io h1 h2 s, ioRead_plain h1 h3]
    rfl
  · exact memRead_hram h1 h2 s
  · exact memRead_ie h1 s

theorem readPlace_storePlace {s : State} (hs : BusOk s.cfg s.bus) {p q : Place} (hp : p.plain)
    (hq : q.plain) (v : Byte) :
    readPlace q (storePlace p v s) = if q = p then v else readPlace q s := by
  cases p with
  | internal k =>
    cases q with
    | internal j => simp [readPlace, storePlace, State.memAt_setMemAt hs.mem_wf]
    | cartRam b o => simp [readPlace, storePlace]
    | ie => simp [readPlace, storePlace]
  | cartRam b o =>
    cases q with
    | internal j => simp [readPlace, storePlace]
    | cartRam b' o' =>
      have h1 : o < 8192 := hp
      have h2 : o' < 8192 := hq
      have h3 : 8192 * b' + o' = 8192 * b + o ↔ b' = b ∧ o' = o := by omega
      simp [readPlace, storePlace, State.extAt_setExtAt hs.ext_wf, h3]
    | ie => simp [readPlace, storePlace]
  | ie => cases q <;> simp [readPlace, storePlace, State.memAt, State.extAt]

/-- Writing plain storage changes no address's place. -/
theorem plainPlace_storePlace (p : Place) (v : Byte) (s : State) (b : Word) :
    plainPlace (storePlace p v s) b = plainPlace s b := by
  cases p <;> rfl

theorem io_storePlace {s : State} (hs : BusOk s.cfg s.bus) {p : Place} (hp : p.plain) (v : Byte)
    {n : Nat} (hn : specialIo (0xFF00 + n) = true) : (storePlace p v s).io n = s.io n := by
  cases p with
  | internal k =>
    have h1 : 0xFF00 + n ≠ k := by
      rintro rfl
      simp [hp.2] at hn
    simp [State.io, storePlace, State.memAt_setMemAt hs.mem_wf, h1]
  | cartRam b o => rfl
  | ie => rfl

/-- The ROM windows are read from the ROM, its bank number and the boot shadow alone (R213). -/
theorem memRead_rom_congr {s t : State} {a : Word} (ha : a.toNat ≤ 0x7FFF) (hcfg : t.cfg = s.cfg)
    (hboot : t.bus.bootEnabled = s.bus.bootEnabled) (hrom : ∀ o, t.romAt o = s.romAt o)
    (hbank : t.bus.romBank = s.bus.romBank) (hn : t.bus.nRom = s.bus.nRom) :
    memRead t a = memRead s a := by
  by_cases h1 : s.bus.bootEnabled = true ∧ a.toNat ≤ 0x00FF
  · rw [memRead_boot (hboot.trans h1.1) h1.2, memRead_boot h1.1 h1.2]
    simp [bootByte, hcfg]
  · have h2 : s.bus.bootEnabled = false ∨ 0x0100 ≤ a.toNat := by
      rcases Bool.eq_false_or_eq_true s.bus.bootEnabled with h | h
      · exact .inr (Nat.lt_of_not_le fun hc => h1 ⟨h, hc⟩)
      · exact .inl h
    by_cases h3 : a.toNat ≤ 0x3FFF
    · rw [memRead_rom0 (by rwa [hboot]) h3, memRead_rom0 h2 h3, hrom]
    · rw [memRead_romBank (by omega) ha, memRead_romBank (by omega) ha]
      simp only [hbank, hn, hrom]

/-- An address that names no plain storage reads the same after a write to plain storage. -/
theorem memRead_storePlace_of_none {s : State} (hs : BusOk s.cfg s.bus) {p : Place}
    (hp : p.plain) (v : Byte) {b : Word} (hb : plainPlace s b = none) :
    memRead (storePlace p v s) b = memRead s b := by
  have hio := fun n h => io_storePlace hs hp v (n := n) h
  have hcfg : (storePlace p v s).cfg = s.cfg := by cases p <;> rfl
  have hppu : (storePlace p v s).ppu = s.ppu := by cases p <;> rfl
  have hboot : (storePlace p v s).bus.bootEnabled = s.bus.bootEnabled := by cases p <;> rfl
  have hrom : ∀ o, (storePlace p v s).romAt o = s.romAt o := by intro o; cases p <;> rfl
  have hrb : (storePlace p v s).bus.romBank = s.bus.romBank := by cases p <;> rfl
  have hnr : (storePlace p v s).bus.nRom = s.bus.nRom := by cases p <;> rfl
  have hblt := b.isLt
  unfold plainPlace at hb
  simp only [] at hb
  repeat' (split at hb)
  all_goals (first | (cases hb; done) | clear hb)
  · exact memRead_rom_congr (by omega) hcfg hboot hrom hrb hnr
  · next h1 =>
    have he : (storePlace p v s).bus.ramEnable = s.bus.ramEnable := by cases p <;> rfl
    have hr : (storePlace p v s).bus.ramBank = s.bus.ramBank := by cases p <;> rfl
    have hn : (storePlace p v s).bus.nRam = s.bus.nRam := by cases p <;> rfl
    rw [memRead_ext (by omega) (by omega), memRead_ext (by omega) (by omega), he, hr, hn,
      if_neg h1, if_neg h1]
  · rw [memRead_hole (by omega) (by omega), memRead_hole (by omega) (by omega)]
  · next h1 =>
    have h2 := (specialIo_iff _).mp h1
    rw [memRead_io (by omega) (by omega), memRead_io (by omega) (by omega)]
    have hF := hio 0x0F (by decide)
    have h41 := hio 0x41 (by decide)
    have h45 := hio 0x45 (by decide)
    have h46 := hio 0x46 (by decide)
    rcases h2 with h | h | h | h | h | h <;>
      simp [h, ioRead, statRead, hF, h41, h45, h46, hppu]

/-- Every address after a write to plain storage: the addresses of that byte give the value
written, and every other address reads as before (R234, R270). -/
theorem memRead_memWrite_plain {s : State} (hs : BusOk s.cfg s.bus) {a : Word} {p : Place}
    (h : plainPlace s a = some p) (v : Byte) (b : Word) :
    memRead (memWrite a v s) b = if plainPlace s b = some p then v else memRead s b := by
  rw [memWrite_of_plain h]
  have hp := plainPlace_plain h
  cases hb : plainPlace s b with
  | none => simp [memRead_storePlace_of_none hs hp v hb]
  | some q =>
    have hb' : plainPlace (storePlace p v s) b = some q := by rw [plainPlace_storePlace, hb]
    rw [memRead_of_plain hb', memRead_of_plain hb,
      readPlace_storePlace hs hp (plainPlace_plain hb)]
    simp

end Sys2Proof.Machine
end

