-- ==== Sys2Proof/Laws/Stack.lean ====
section
/-!
SUPPORT. The stack, fetch, interrupt and fallback operations: what each changes and what it keeps.
-/

namespace Sys2Proof.Machine

/-! ## Updates of the CPU alone -/

theorem memRead_congr {s t : State} (hcfg : t.cfg = s.cfg) (hbus : t.bus = s.bus)
    (hppu : t.ppu = s.ppu) (a : Word) : memRead t a = memRead s a := by
  cases s
  cases t
  cases hcfg
  cases hbus
  cases hppu
  rfl

@[simp] theorem memRead_setPc (s : State) (v a : Word) : memRead (s.setPc v) a = memRead s a :=
  memRead_congr rfl rfl rfl a

@[simp] theorem memRead_setSp (s : State) (v a : Word) : memRead (s.setSp v) a = memRead s a :=
  memRead_congr rfl rfl rfl a

@[simp] theorem memRead_setFlags (s : State) (z n h c : Bool) (a : Word) :
    memRead (s.setFlags z n h c) a = memRead s a :=
  memRead_congr rfl rfl rfl a

@[simp] theorem memRead_setCycles (s : State) (n : Nat) (a : Word) :
    memRead (s.setCycles n) a = memRead s a :=
  memRead_congr rfl rfl rfl a

@[simp] theorem memRead_setReg8 (s : State) (r : Reg8) (v : Byte) (a : Word) :
    memRead (s.setReg8 r v) a = memRead s a :=
  memRead_congr (by simp) (by simp) (by simp) a

@[simp] theorem memRead_setReg16 (s : State) (rr : Reg16) (v a : Word) :
    memRead (s.setReg16 rr v) a = memRead s a :=
  memRead_congr (by simp) (by simp) (by simp) a

@[simp] theorem memRead_setReg16Stack (s : State) (qq : Reg16Stack) (v a : Word) :
    memRead (s.setReg16Stack qq v) a = memRead s a :=
  memRead_congr (by simp) (by simp) (by simp) a

/-! ## A bus write does not see the registers -/

theorem oamCopy_withCpu (src : Word) (c : Cpu) (l : List Nat) (s : State) :
    l.foldl (oamCopyByte src) { s with cpu := c } =
      { l.foldl (oamCopyByte src) s with cpu := c } := by
  induction l generalizing s with
  | nil => rfl
  | cons i l ih =>
    have h : oamCopyByte src { s with cpu := c } i = { oamCopyByte src s i with cpu := c } := by
      simp only [oamCopyByte, memRead_congr (s := s) (t := { s with cpu := c }) rfl rfl rfl]
      rfl
    rw [List.foldl_cons, List.foldl_cons, h, ih]

theorem ioWrite_withCpu (n : Nat) (v : Byte) (c : Cpu) (s : State) :
    ioWrite n v { s with cpu := c } = { ioWrite n v s with cpu := c } := by
  simp only [ioWrite]
  split
  · rfl
  split
  · rfl
  split
  · rfl
  split
  · simp only [dmaWrite]
    cases h : s.cfg.oamDma with
    | instant => exact oamCopy_withCpu _ c _ (s.setIo 0x46 v)
    | none => rfl
  split
  · simp only [bootWrite]
    split <;> rfl
  · rfl

/-- A bus write reads and changes no register. -/
theorem memWrite_withCpu (a : Word) (v : Byte) (c : Cpu) (s : State) :
    memWrite a v { s with cpu := c } = { memWrite a v s with cpu := c } := by
  have ha := a.isLt
  by_cases h0 : a.toNat ≤ 0x1FFF
  · rw [memWrite_ramEnable h0, memWrite_ramEnable h0]
    rfl
  by_cases h1 : a.toNat ≤ 0x3FFF
  · rw [memWrite_romBank (by omega) h1, memWrite_romBank (by omega) h1]
    rfl
  by_cases h2 : a.toNat ≤ 0x5FFF
  · rw [memWrite_ramBank (by omega) h2, memWrite_ramBank (by omega) h2]
    rfl
  by_cases h3 : a.toNat ≤ 0x7FFF
  · rw [memWrite_ignored (by omega) h3, memWrite_ignored (by omega) h3]
  by_cases h4 : a.toNat ≤ 0x9FFF
  · rw [memWrite_vram (by omega) h4, memWrite_vram (by omega) h4]
    rfl
  by_cases h5 : a.toNat ≤ 0xBFFF
  · rw [memWrite_ext (by omega) h5, memWrite_ext (by omega) h5]
    by_cases h : s.bus.ramEnable = true ∧ s.bus.ramBank.toNat < s.bus.nRam
    · rw [if_pos h, if_pos h]
      rfl
    · rw [if_neg h, if_neg h]
  by_cases h6 : a.toNat ≤ 0xDFFF
  · rw [memWrite_wram (by omega) h6, memWrite_wram (by omega) h6]
    rfl
  by_cases h7 : a.toNat ≤ 0xFDFF
  · rw [memWrite_echo (by omega) h7, memWrite_echo (by omega) h7]
    rfl
  by_cases h8 : a.toNat ≤ 0xFE9F
  · rw [memWrite_oam (by omega) h8, memWrite_oam (by omega) h8]
    rfl
  by_cases h9 : a.toNat ≤ 0xFEFF
  · rw [memWrite_hole (by omega) h9, memWrite_hole (by omega) h9]
  by_cases h10 : a.toNat ≤ 0xFF7F
  · rw [memWrite_io (by omega) h10, memWrite_io (by omega) h10]
    exact ioWrite_withCpu _ v c s
  by_cases h11 : a.toNat ≤ 0xFFFE
  · rw [memWrite_hram (by omega) h11, memWrite_hram (by omega) h11]
    rfl
  rw [memWrite_ie (by omega), memWrite_ie (by omega)]

/-! ## Push (R20) -/

theorem push8_eq (v : Byte) (s : State) :
    push8 v s =
      { memWrite (s.cpu.sp - 1#16) v s with cpu := { s.cpu with sp := s.cpu.sp - 1#16 } } :=
  memWrite_withCpu _ _ _ s

theorem sub_one_sub_one (v : Word) : v - 1#16 - 1#16 = v - 2#16 := by
  rw [BitVec.sub_sub]
  rfl

/-- A push is two byte writes, the high byte first, and SP two lower (R20). -/
theorem push16_eq (v : Word) (s : State) :
    push16 v s =
      { memWrite (s.cpu.sp - 2#16) (loByte v) (memWrite (s.cpu.sp - 1#16) (hiByte v) s) with
        cpu := { s.cpu with sp := s.cpu.sp - 2#16 } } := by
  rw [push16, push8_eq (hiByte v) s, push8_eq]
  simp only [memWrite_withCpu, sub_one_sub_one]

@[simp] theorem push16_cpu (v : Word) (s : State) :
    (push16 v s).cpu = { s.cpu with sp := s.cpu.sp - 2#16 } := by
  rw [push16_eq]

@[simp] theorem push16_cfg (v : Word) (s : State) : (push16 v s).cfg = s.cfg := by
  simp [push16, push8]
@[simp] theorem push16_ppu (v : Word) (s : State) : (push16 v s).ppu = s.ppu := by
  simp [push16, push8]
@[simp] theorem push16_faultLog (v : Word) (s : State) : (push16 v s).faultLog = s.faultLog := by
  simp [push16, push8]
@[simp] theorem push16_mcycles (v : Word) (s : State) : (push16 v s).mcycles = s.mcycles := by
  simp [push16, push8]
@[simp] theorem push16_start (v : Word) (s : State) : (push16 v s).start = s.start := by
  simp [push16, push8]
@[simp] theorem push16_rom (v : Word) (s : State) : (push16 v s).bus.rom = s.bus.rom := by
  simp [push16, push8]
@[simp] theorem push16_nRom (v : Word) (s : State) : (push16 v s).bus.nRom = s.bus.nRom := by
  simp [push16, push8]
@[simp] theorem push16_nRam (v : Word) (s : State) : (push16 v s).bus.nRam = s.bus.nRam := by
  simp [push16, push8]

theorem BusOk.push16 {s : State} (h : BusOk s.cfg s.bus) (v : Word) :
    BusOk (push16 v s).cfg (push16 v s).bus := by
  rw [push16_eq]
  exact (h.memWrite _ _).memWrite _ _

theorem push16_bootEnabled (v : Word) (s : State)
    (h : (push16 v s).bus.bootEnabled = true) : s.bus.bootEnabled = true := by
  rw [push16_eq] at h
  exact memWrite_bootEnabled _ _ _ (memWrite_bootEnabled _ _ _ h)

/-! ## Fetch (R20, R1011) -/

/-- A fetch changes the CPU alone, and of it pc or, under the HALT bug, the bug. -/
theorem fetch8_state (s : State) :
    (fetch8 s).2 = { s with cpu :=
      if s.cpu.haltBug then { s.cpu with haltBug := false }
      else { s.cpu with pc := s.cpu.pc + 1#16 } } := by
  simp only [fetch8]
  split <;> rfl

theorem fetch8_noBug {s : State} (h : s.cpu.haltBug = false) :
    (fetch8 s).2 = s.setPc (s.cpu.pc + 1#16) := by
  simp [fetch8, h]

@[simp] theorem fetch8_fst (s : State) : (fetch8 s).1 = memRead s s.cpu.pc := rfl

@[simp] theorem fetch8_haltBug (s : State) : (fetch8 s).2.cpu.haltBug = false := by
  rw [fetch8_state]
  by_cases h : s.cpu.haltBug = true
  · simp [h]
  · simp [h]

/-! ## Interrupt requests and dispatch (R1105-R1120) -/

theorem BusOk.setIo {s : State} (h : BusOk s.cfg s.bus) {n : Nat} (hn : n ≤ 0x7F) (v : Byte) :
    BusOk (s.setIo n v).cfg (s.setIo n v).bus :=
  h.setMemAt (isInternal_io hn) v

theorem BusOk.request {s : State} (h : BusOk s.cfg s.bus) (k : Nat) :
    BusOk (request k s).cfg (request k s).bus :=
  h.setIo (by omega) _

/-- Taking an interrupt: what is saved, what is cleared and where pc goes (R1120). -/
theorem dispatchInterrupt_cpu (k : Nat) (s : State) :
    (dispatchInterrupt k s).cpu =
      { s.cpu with
        ime := false, eiDelay := false, haltBug := false
        sp := s.cpu.sp - 2#16, pc := irqVector k } := by
  simp [dispatchInterrupt, State.setPc]

theorem dispatchInterrupt_frame (k : Nat) (s : State) :
    (dispatchInterrupt k s).cfg = s.cfg ∧ (dispatchInterrupt k s).ppu = s.ppu ∧
      (dispatchInterrupt k s).faultLog = s.faultLog ∧ (dispatchInterrupt k s).mcycles = 5 ∧
      (dispatchInterrupt k s).bus.rom = s.bus.rom ∧ (dispatchInterrupt k s).bus.nRom = s.bus.nRom ∧
      (dispatchInterrupt k s).bus.nRam = s.bus.nRam := by
  simp [dispatchInterrupt]

/-- The state a dispatch pushes from: the request acknowledged, the control bits cleared. -/
def dispatchFrom (k : Nat) (s : State) : State :=
  { s.setIo 0x0F (s.io 0x0F &&& ~~~(1#8 <<< k)) with
    cpu := { s.cpu with ime := false, eiDelay := false, haltBug := false } }

theorem dispatchInterrupt_eq (k : Nat) (s : State) :
    dispatchInterrupt k s =
      ((push16 (irqReturn s) (dispatchFrom k s)).setPc (irqVector k)).setCycles 5 := rfl

theorem BusOk.dispatchInterrupt {s : State} (h : BusOk s.cfg s.bus) (k : Nat) :
    BusOk (dispatchInterrupt k s).cfg (dispatchInterrupt k s).bus := by
  have h1 : BusOk (dispatchFrom k s).cfg (dispatchFrom k s).bus :=
    h.setIo (n := 0x0F) (by omega) (s.io 0x0F &&& ~~~(1#8 <<< k))
  rw [dispatchInterrupt_eq]
  exact h1.push16 (irqReturn s)

theorem dispatchInterrupt_bootEnabled (k : Nat) (s : State)
    (h : (dispatchInterrupt k s).bus.bootEnabled = true) : s.bus.bootEnabled = true := by
  rw [dispatchInterrupt_eq] at h
  exact push16_bootEnabled (irqReturn s) (dispatchFrom k s) h

/-! ## The fallback (R1030) -/

theorem fallback_state (code : Word) (s : State) :
    fallback code s =
      { s with
        faultLog := s.faultLog ++ [FaultRecord.mk s.start code]
        mcycles := 0
        cpu := { s.cpu with
          faulted := s.cpu.faulted || decide (s.cfg.unknownPolicy = .stops) } } := by
  cases h : s.cfg.unknownPolicy <;> simp [fallback, h, State.setCycles]

end Sys2Proof.Machine
end

