-- ==== Sys2Proof/Laws/Exec.lean ====
section
/-!
SUPPORT. Every instruction is one of a few dozen shared meanings: what holds of each of those holds
of `exec` on every instruction.
-/

namespace Sys2Proof

/-- The rows that act on the control bits or the fault log: HALT, STOP, DI, EI, RETI and the unused
bytes (R104, R110-R115). -/
def Instr.isControl (i : Instr) : Bool :=
  match i with
  | .halt | .stop _ | .di | .ei | .reti => true
  | .illegalD3 | .illegalDB | .illegalDD | .illegalE3 | .illegalE4 | .illegalEB | .illegalEC
  | .illegalED | .illegalF4 | .illegalFC | .illegalFD => true
  | _ => false

namespace Machine

/-- A property of results that every shared meaning outside the control group has at `s`. -/
structure PlainMeanings (P : Result → Prop) (s : State) : Prop where
  nop : P (retire 1 s)
  ldRegReg : ∀ (d r : Reg8), P (Machine.ldRegReg d r s)
  aluReg : ∀ (o : AluOp) (r : Reg8), P (Machine.aluReg o r s)
  rotReg : ∀ (o : RotOp) (r : Reg8), P (Machine.rotReg o r s)
  testBitReg : ∀ (k : Num3) (r : Reg8), P (Machine.testBitReg k r s)
  resetBitReg : ∀ (k : Num3) (r : Reg8), P (Machine.resetBitReg k r s)
  setBitReg : ∀ (k : Num3) (r : Reg8), P (Machine.setBitReg k r s)
  ldRegImm : ∀ (r : Reg8) (n : Byte), P (Machine.ldRegImm r n s)
  ldRegMem : ∀ (r : Reg8), P (Machine.ldRegMem r s)
  ldMemReg : ∀ (r : Reg8), P (Machine.ldMemReg r s)
  ldMemImm : ∀ (n : Byte), P (Machine.ldMemImm n s)
  loadA : ∀ (a : Word) (n : Nat), P (Machine.loadA a n s)
  storeA : ∀ (a : Word) (n : Nat), P (Machine.storeA a n s)
  loadAStepHl : ∀ (delta : Word), P (Machine.loadAStepHl delta s)
  storeAStepHl : ∀ (delta : Word), P (Machine.storeAStepHl delta s)
  ldPairImm : ∀ (rr : Reg16) (v : Word), P (Machine.ldPairImm rr v s)
  ldSpFromHl : P (Machine.ldSpFromHl s)
  storeSp : ∀ (a : Word), P (Machine.storeSp a s)
  pushPair : ∀ (qq : Reg16Stack), P (Machine.pushPair qq s)
  popPair : ∀ (qq : Reg16Stack), P (Machine.popPair qq s)
  aluMem : ∀ (o : AluOp), P (Machine.aluMem o s)
  aluImm : ∀ (o : AluOp) (n : Byte), P (Machine.aluImm o n s)
  incReg : ∀ (r : Reg8), P (Machine.incReg r s)
  incMem : P (Machine.incMem s)
  decReg : ∀ (r : Reg8), P (Machine.decReg r s)
  decMem : P (Machine.decMem s)
  daaA : P (Machine.daaA s)
  complementA : P (Machine.complementA s)
  setCarry : P (Machine.setCarry s)
  complementCarry : P (Machine.complementCarry s)
  stepPair : ∀ (rr : Reg16) (delta : Word), P (Machine.stepPair rr delta s)
  addHlPair : ∀ (rr : Reg16), P (Machine.addHlPair rr s)
  addSp : ∀ (e : Byte), P (Machine.addSp e s)
  hlFromSp : ∀ (e : Byte), P (Machine.hlFromSp e s)
  rotA : ∀ (o : RotOp), P (Machine.rotA o s)
  rotMem : ∀ (o : RotOp), P (Machine.rotMem o s)
  testBitMem : ∀ (k : Num3), P (Machine.testBitMem k s)
  resetBitMem : ∀ (k : Num3), P (Machine.resetBitMem k s)
  setBitMem : ∀ (k : Num3), P (Machine.setBitMem k s)
  jumpTo : ∀ (t : Word), P (Machine.jumpTo t s)
  jumpIf : ∀ (cc : Cond) (t : Word), P (Machine.jumpIf cc t s)
  jumpHl : P (Machine.jumpHl s)
  jumpRel : ∀ (e : Byte), P (Machine.jumpRel e s)
  jumpRelIf : ∀ (cc : Cond) (e : Byte), P (Machine.jumpRelIf cc e s)
  callTo : ∀ (t : Word), P (Machine.callTo t s)
  callIf : ∀ (cc : Cond) (t : Word), P (Machine.callIf cc t s)
  returnPlain : P (Machine.returnPlain s)
  returnIf : ∀ (cc : Cond), P (Machine.returnIf cc s)
  restart : ∀ (t : Num3), P (Machine.restart t s)

/-- A property of results that the meanings of the control group have at `s`. -/
structure ControlMeanings (P : Result → Prop) (s : State) : Prop where
  returnEnable : P (Machine.returnEnable s)
  haltCpu : P (Machine.haltCpu s)
  stopCpu : P (Machine.stopCpu s)
  disableInterrupts : P (Machine.disableInterrupts s)
  enableInterrupts : P (Machine.enableInterrupts s)
  unknownOpcode : ∀ (op : Byte), P (Machine.unknownOpcode op s)

/-- What every plain meaning has, every instruction outside the control group has. -/
theorem exec_plain {P : Result → Prop} {s : State} (h : PlainMeanings P s) (i : Instr)
    (hi : i.isControl = false) : P (exec i s) := by
  cases i with
  | nop => exact h.nop
  | ldBcD16 d16 => exact h.ldPairImm .bc d16
  | ldAtBcA => exact h.storeA s.bc 2
  | incBc => exact h.stepPair .bc 0x0001#16
  | incB => exact h.incReg .b
  | decB => exact h.decReg .b
  | ldBD8 d8 => exact h.ldRegImm .b d8
  | rlca => exact h.rotA .rlc
  | ldAtA16Sp a16 => exact h.storeSp a16
  | addHlBc => exact h.addHlPair .bc
  | ldAAtBc => exact h.loadA s.bc 2
  | decBc => exact h.stepPair .bc 0xFFFF#16
  | incC => exact h.incReg .c
  | decC => exact h.decReg .c
  | ldCD8 d8 => exact h.ldRegImm .c d8
  | rrca => exact h.rotA .rrc
  | stop _ => simp [Instr.isControl] at hi
  | ldDeD16 d16 => exact h.ldPairImm .de d16
  | ldAtDeA => exact h.storeA s.de 2
  | incDe => exact h.stepPair .de 0x0001#16
  | incD => exact h.incReg .d
  | decD => exact h.decReg .d
  | ldDD8 d8 => exact h.ldRegImm .d d8
  | rla => exact h.rotA .rl
  | jrE8 e8 => exact h.jumpRel e8
  | addHlDe => exact h.addHlPair .de
  | ldAAtDe => exact h.loadA s.de 2
  | decDe => exact h.stepPair .de 0xFFFF#16
  | incE => exact h.incReg .e
  | decE => exact h.decReg .e
  | ldED8 d8 => exact h.ldRegImm .e d8
  | rra => exact h.rotA .rr
  | jrNzE8 e8 => exact h.jumpRelIf .nz e8
  | ldHlD16 d16 => exact h.ldPairImm .hl d16
  | ldAtHlIncA => exact h.storeAStepHl 0x0001#16
  | incHl => exact h.stepPair .hl 0x0001#16
  | incH => exact h.incReg .h
  | decH => exact h.decReg .h
  | ldHD8 d8 => exact h.ldRegImm .h d8
  | daa => exact h.daaA
  | jrZE8 e8 => exact h.jumpRelIf .z e8
  | addHlHl => exact h.addHlPair .hl
  | ldAAtHlInc => exact h.loadAStepHl 0x0001#16
  | decHl => exact h.stepPair .hl 0xFFFF#16
  | incL => exact h.incReg .l
  | decL => exact h.decReg .l
  | ldLD8 d8 => exact h.ldRegImm .l d8
  | cpl => exact h.complementA
  | jrNcE8 e8 => exact h.jumpRelIf .nc e8
  | ldSpD16 d16 => exact h.ldPairImm .sp d16
  | ldAtHlDecA => exact h.storeAStepHl 0xFFFF#16
  | incSp => exact h.stepPair .sp 0x0001#16
  | incAtHl => exact h.incMem
  | decAtHl => exact h.decMem
  | ldAtHlD8 d8 => exact h.ldMemImm d8
  | scf => exact h.setCarry
  | jrCE8 e8 => exact h.jumpRelIf .c e8
  | addHlSp => exact h.addHlPair .sp
  | ldAAtHlDec => exact h.loadAStepHl 0xFFFF#16
  | decSp => exact h.stepPair .sp 0xFFFF#16
  | incA => exact h.incReg .a
  | decA => exact h.decReg .a
  | ldAD8 d8 => exact h.ldRegImm .a d8
  | ccf => exact h.complementCarry
  | ldBB => exact h.ldRegReg .b .b
  | ldBC => exact h.ldRegReg .b .c
  | ldBD => exact h.ldRegReg .b .d
  | ldBE => exact h.ldRegReg .b .e
  | ldBH => exact h.ldRegReg .b .h
  | ldBL => exact h.ldRegReg .b .l
  | ldBAtHl => exact h.ldRegMem .b
  | ldBA => exact h.ldRegReg .b .a
  | ldCB => exact h.ldRegReg .c .b
  | ldCC => exact h.ldRegReg .c .c
  | ldCD => exact h.ldRegReg .c .d
  | ldCE => exact h.ldRegReg .c .e
  | ldCH => exact h.ldRegReg .c .h
  | ldCL => exact h.ldRegReg .c .l
  | ldCAtHl => exact h.ldRegMem .c
  | ldCA => exact h.ldRegReg .c .a
  | ldDB => exact h.ldRegReg .d .b
  | ldDC => exact h.ldRegReg .d .c
  | ldDD => exact h.ldRegReg .d .d
  | ldDE => exact h.ldRegReg .d .e
  | ldDH => exact h.ldRegReg .d .h
  | ldDL => exact h.ldRegReg .d .l
  | ldDAtHl => exact h.ldRegMem .d
  | ldDA => exact h.ldRegReg .d .a
  | ldEB => exact h.ldRegReg .e .b
  | ldEC => exact h.ldRegReg .e .c
  | ldED => exact h.ldRegReg .e .d
  | ldEE => exact h.ldRegReg .e .e
  | ldEH => exact h.ldRegReg .e .h
  | ldEL => exact h.ldRegReg .e .l
  | ldEAtHl => exact h.ldRegMem .e
  | ldEA => exact h.ldRegReg .e .a
  | ldHB => exact h.ldRegReg .h .b
  | ldHC => exact h.ldRegReg .h .c
  | ldHD => exact h.ldRegReg .h .d
  | ldHE => exact h.ldRegReg .h .e
  | ldHH => exact h.ldRegReg .h .h
  | ldHL => exact h.ldRegReg .h .l
  | ldHAtHl => exact h.ldRegMem .h
  | ldHA => exact h.ldRegReg .h .a
  | ldLB => exact h.ldRegReg .l .b
  | ldLC => exact h.ldRegReg .l .c
  | ldLD => exact h.ldRegReg .l .d
  | ldLE => exact h.ldRegReg .l .e
  | ldLH => exact h.ldRegReg .l .h
  | ldLL => exact h.ldRegReg .l .l
  | ldLAtHl => exact h.ldRegMem .l
  | ldLA => exact h.ldRegReg .l .a
  | ldAtHlB => exact h.ldMemReg .b
  | ldAtHlC => exact h.ldMemReg .c
  | ldAtHlD => exact h.ldMemReg .d
  | ldAtHlE => exact h.ldMemReg .e
  | ldAtHlH => exact h.ldMemReg .h
  | ldAtHlL => exact h.ldMemReg .l
  | halt => exact absurd hi (by decide)
  | ldAtHlA => exact h.ldMemReg .a
  | ldAB => exact h.ldRegReg .a .b
  | ldAC => exact h.ldRegReg .a .c
  | ldAD => exact h.ldRegReg .a .d
  | ldAE => exact h.ldRegReg .a .e
  | ldAH => exact h.ldRegReg .a .h
  | ldAL => exact h.ldRegReg .a .l
  | ldAAtHl => exact h.ldRegMem .a
  | ldAA => exact h.ldRegReg .a .a
  | addAB => exact h.aluReg .add .b
  | addAC => exact h.aluReg .add .c
  | addAD => exact h.aluReg .add .d
  | addAE => exact h.aluReg .add .e
  | addAH => exact h.aluReg .add .h
  | addAL => exact h.aluReg .add .l
  | addAAtHl => exact h.aluMem .add
  | addAA => exact h.aluReg .add .a
  | adcAB => exact h.aluReg .adc .b
  | adcAC => exact h.aluReg .adc .c
  | adcAD => exact h.aluReg .adc .d
  | adcAE => exact h.aluReg .adc .e
  | adcAH => exact h.aluReg .adc .h
  | adcAL => exact h.aluReg .adc .l
  | adcAAtHl => exact h.aluMem .adc
  | adcAA => exact h.aluReg .adc .a
  | subB => exact h.aluReg .sub .b
  | subC => exact h.aluReg .sub .c
  | subD => exact h.aluReg .sub .d
  | subE => exact h.aluReg .sub .e
  | subH => exact h.aluReg .sub .h
  | subL => exact h.aluReg .sub .l
  | subAtHl => exact h.aluMem .sub
  | subA => exact h.aluReg .sub .a
  | sbcAB => exact h.aluReg .sbc .b
  | sbcAC => exact h.aluReg .sbc .c
  | sbcAD => exact h.aluReg .sbc .d
  | sbcAE => exact h.aluReg .sbc .e
  | sbcAH => exact h.aluReg .sbc .h
  | sbcAL => exact h.aluReg .sbc .l
  | sbcAAtHl => exact h.aluMem .sbc
  | sbcAA => exact h.aluReg .sbc .a
  | andB => exact h.aluReg .and .b
  | andC => exact h.aluReg .and .c
  | andD => exact h.aluReg .and .d
  | andE => exact h.aluReg .and .e
  | andH => exact h.aluReg .and .h
  | andL => exact h.aluReg .and .l
  | andAtHl => exact h.aluMem .and
  | andA => exact h.aluReg .and .a
  | xorB => exact h.aluReg .xor .b
  | xorC => exact h.aluReg .xor .c
  | xorD => exact h.aluReg .xor .d
  | xorE => exact h.aluReg .xor .e
  | xorH => exact h.aluReg .xor .h
  | xorL => exact h.aluReg .xor .l
  | xorAtHl => exact h.aluMem .xor
  | xorA => exact h.aluReg .xor .a
  | orB => exact h.aluReg .or .b
  | orC => exact h.aluReg .or .c
  | orD => exact h.aluReg .or .d
  | orE => exact h.aluReg .or .e
  | orH => exact h.aluReg .or .h
  | orL => exact h.aluReg .or .l
  | orAtHl => exact h.aluMem .or
  | orA => exact h.aluReg .or .a
  | cpB => exact h.aluReg .cp .b
  | cpC => exact h.aluReg .cp .c
  | cpD => exact h.aluReg .cp .d
  | cpE => exact h.aluReg .cp .e
  | cpH => exact h.aluReg .cp .h
  | cpL => exact h.aluReg .cp .l
  | cpAtHl => exact h.aluMem .cp
  | cpA => exact h.aluReg .cp .a
  | retNz => exact h.returnIf .nz
  | popBc => exact h.popPair .bc
  | jpNzA16 a16 => exact h.jumpIf .nz a16
  | jpA16 a16 => exact h.jumpTo a16
  | callNzA16 a16 => exact h.callIf .nz a16
  | pushBc => exact h.pushPair .bc
  | addAD8 d8 => exact h.aluImm .add d8
  | rst00 => exact h.restart .n0
  | retZ => exact h.returnIf .z
  | ret => exact h.returnPlain
  | jpZA16 a16 => exact h.jumpIf .z a16
  | callZA16 a16 => exact h.callIf .z a16
  | callA16 a16 => exact h.callTo a16
  | adcAD8 d8 => exact h.aluImm .adc d8
  | rst08 => exact h.restart .n1
  | retNc => exact h.returnIf .nc
  | popDe => exact h.popPair .de
  | jpNcA16 a16 => exact h.jumpIf .nc a16
  | illegalD3 => exact absurd hi (by decide)
  | callNcA16 a16 => exact h.callIf .nc a16
  | pushDe => exact h.pushPair .de
  | subD8 d8 => exact h.aluImm .sub d8
  | rst10 => exact h.restart .n2
  | retC => exact h.returnIf .c
  | reti => exact absurd hi (by decide)
  | jpCA16 a16 => exact h.jumpIf .c a16
  | illegalDB => exact absurd hi (by decide)
  | callCA16 a16 => exact h.callIf .c a16
  | illegalDD => exact absurd hi (by decide)
  | sbcAD8 d8 => exact h.aluImm .sbc d8
  | rst18 => exact h.restart .n3
  | ldhAtA8A a8 => exact h.storeA (highPage a8) 3
  | popHl => exact h.popPair .hl
  | ldAtCA => exact h.storeA (highPage s.cpu.c) 2
  | illegalE3 => exact absurd hi (by decide)
  | illegalE4 => exact absurd hi (by decide)
  | pushHl => exact h.pushPair .hl
  | andD8 d8 => exact h.aluImm .and d8
  | rst20 => exact h.restart .n4
  | addSpE8 e8 => exact h.addSp e8
  | jpAtHl => exact h.jumpHl
  | ldAtA16A a16 => exact h.storeA a16 4
  | illegalEB => exact absurd hi (by decide)
  | illegalEC => exact absurd hi (by decide)
  | illegalED => exact absurd hi (by decide)
  | xorD8 d8 => exact h.aluImm .xor d8
  | rst28 => exact h.restart .n5
  | ldhAAtA8 a8 => exact h.loadA (highPage a8) 3
  | popAf => exact h.popPair .af
  | ldAAtC => exact h.loadA (highPage s.cpu.c) 2
  | di => exact absurd hi (by decide)
  | illegalF4 => exact absurd hi (by decide)
  | pushAf => exact h.pushPair .af
  | orD8 d8 => exact h.aluImm .or d8
  | rst30 => exact h.restart .n6
  | ldHlSpE8 e8 => exact h.hlFromSp e8
  | ldSpHl => exact h.ldSpFromHl
  | ldAAtA16 a16 => exact h.loadA a16 4
  | ei => exact absurd hi (by decide)
  | illegalFC => exact absurd hi (by decide)
  | illegalFD => exact absurd hi (by decide)
  | cpD8 d8 => exact h.aluImm .cp d8
  | rst38 => exact h.restart .n7
  | rlcB => exact h.rotReg .rlc .b
  | rlcC => exact h.rotReg .rlc .c
  | rlcD => exact h.rotReg .rlc .d
  | rlcE => exact h.rotReg .rlc .e
  | rlcH => exact h.rotReg .rlc .h
  | rlcL => exact h.rotReg .rlc .l
  | rlcAtHl => exact h.rotMem .rlc
  | rlcA => exact h.rotReg .rlc .a
  | rrcB => exact h.rotReg .rrc .b
  | rrcC => exact h.rotReg .rrc .c
  | rrcD => exact h.rotReg .rrc .d
  | rrcE => exact h.rotReg .rrc .e
  | rrcH => exact h.rotReg .rrc .h
  | rrcL => exact h.rotReg .rrc .l
  | rrcAtHl => exact h.rotMem .rrc
  | rrcA => exact h.rotReg .rrc .a
  | rlB => exact h.rotReg .rl .b
  | rlC => exact h.rotReg .rl .c
  | rlD => exact h.rotReg .rl .d
  | rlE => exact h.rotReg .rl .e
  | rlH => exact h.rotReg .rl .h
  | rlL => exact h.rotReg .rl .l
  | rlAtHl => exact h.rotMem .rl
  | rlA => exact h.rotReg .rl .a
  | rrB => exact h.rotReg .rr .b
  | rrC => exact h.rotReg .rr .c
  | rrD => exact h.rotReg .rr .d
  | rrE => exact h.rotReg .rr .e
  | rrH => exact h.rotReg .rr .h
  | rrL => exact h.rotReg .rr .l
  | rrAtHl => exact h.rotMem .rr
  | rrA => exact h.rotReg .rr .a
  | slaB => exact h.rotReg .sla .b
  | slaC => exact h.rotReg .sla .c
  | slaD => exact h.rotReg .sla .d
  | slaE => exact h.rotReg .sla .e
  | slaH => exact h.rotReg .sla .h
  | slaL => exact h.rotReg .sla .l
  | slaAtHl => exact h.rotMem .sla
  | slaA => exact h.rotReg .sla .a
  | sraB => exact h.rotReg .sra .b
  | sraC => exact h.rotReg .sra .c
  | sraD => exact h.rotReg .sra .d
  | sraE => exact h.rotReg .sra .e
  | sraH => exact h.rotReg .sra .h
  | sraL => exact h.rotReg .sra .l
  | sraAtHl => exact h.rotMem .sra
  | sraA => exact h.rotReg .sra .a
  | swapB => exact h.rotReg .swap .b
  | swapC => exact h.rotReg .swap .c
  | swapD => exact h.rotReg .swap .d
  | swapE => exact h.rotReg .swap .e
  | swapH => exact h.rotReg .swap .h
  | swapL => exact h.rotReg .swap .l
  | swapAtHl => exact h.rotMem .swap
  | swapA => exact h.rotReg .swap .a
  | srlB => exact h.rotReg .srl .b
  | srlC => exact h.rotReg .srl .c
  | srlD => exact h.rotReg .srl .d
  | srlE => exact h.rotReg .srl .e
  | srlH => exact h.rotReg .srl .h
  | srlL => exact h.rotReg .srl .l
  | srlAtHl => exact h.rotMem .srl
  | srlA => exact h.rotReg .srl .a
  | bit0B => exact h.testBitReg .n0 .b
  | bit0C => exact h.testBitReg .n0 .c
  | bit0D => exact h.testBitReg .n0 .d
  | bit0E => exact h.testBitReg .n0 .e
  | bit0H => exact h.testBitReg .n0 .h
  | bit0L => exact h.testBitReg .n0 .l
  | bit0AtHl => exact h.testBitMem .n0
  | bit0A => exact h.testBitReg .n0 .a
  | bit1B => exact h.testBitReg .n1 .b
  | bit1C => exact h.testBitReg .n1 .c
  | bit1D => exact h.testBitReg .n1 .d
  | bit1E => exact h.testBitReg .n1 .e
  | bit1H => exact h.testBitReg .n1 .h
  | bit1L => exact h.testBitReg .n1 .l
  | bit1AtHl => exact h.testBitMem .n1
  | bit1A => exact h.testBitReg .n1 .a
  | bit2B => exact h.testBitReg .n2 .b
  | bit2C => exact h.testBitReg .n2 .c
  | bit2D => exact h.testBitReg .n2 .d
  | bit2E => exact h.testBitReg .n2 .e
  | bit2H => exact h.testBitReg .n2 .h
  | bit2L => exact h.testBitReg .n2 .l
  | bit2AtHl => exact h.testBitMem .n2
  | bit2A => exact h.testBitReg .n2 .a
  | bit3B => exact h.testBitReg .n3 .b
  | bit3C => exact h.testBitReg .n3 .c
  | bit3D => exact h.testBitReg .n3 .d
  | bit3E => exact h.testBitReg .n3 .e
  | bit3H => exact h.testBitReg .n3 .h
  | bit3L => exact h.testBitReg .n3 .l
  | bit3AtHl => exact h.testBitMem .n3
  | bit3A => exact h.testBitReg .n3 .a
  | bit4B => exact h.testBitReg .n4 .b
  | bit4C => exact h.testBitReg .n4 .c
  | bit4D => exact h.testBitReg .n4 .d
  | bit4E => exact h.testBitReg .n4 .e
  | bit4H => exact h.testBitReg .n4 .h
  | bit4L => exact h.testBitReg .n4 .l
  | bit4AtHl => exact h.testBitMem .n4
  | bit4A => exact h.testBitReg .n4 .a
  | bit5B => exact h.testBitReg .n5 .b
  | bit5C => exact h.testBitReg .n5 .c
  | bit5D => exact h.testBitReg .n5 .d
  | bit5E => exact h.testBitReg .n5 .e
  | bit5H => exact h.testBitReg .n5 .h
  | bit5L => exact h.testBitReg .n5 .l
  | bit5AtHl => exact h.testBitMem .n5
  | bit5A => exact h.testBitReg .n5 .a
  | bit6B => exact h.testBitReg .n6 .b
  | bit6C => exact h.testBitReg .n6 .c
  | bit6D => exact h.testBitReg .n6 .d
  | bit6E => exact h.testBitReg .n6 .e
  | bit6H => exact h.testBitReg .n6 .h
  | bit6L => exact h.testBitReg .n6 .l
  | bit6AtHl => exact h.testBitMem .n6
  | bit6A => exact h.testBitReg .n6 .a
  | bit7B => exact h.testBitReg .n7 .b
  | bit7C => exact h.testBitReg .n7 .c
  | bit7D => exact h.testBitReg .n7 .d
  | bit7E => exact h.testBitReg .n7 .e
  | bit7H => exact h.testBitReg .n7 .h
  | bit7L => exact h.testBitReg .n7 .l
  | bit7AtHl => exact h.testBitMem .n7
  | bit7A => exact h.testBitReg .n7 .a
  | res0B => exact h.resetBitReg .n0 .b
  | res0C => exact h.resetBitReg .n0 .c
  | res0D => exact h.resetBitReg .n0 .d
  | res0E => exact h.resetBitReg .n0 .e
  | res0H => exact h.resetBitReg .n0 .h
  | res0L => exact h.resetBitReg .n0 .l
  | res0AtHl => exact h.resetBitMem .n0
  | res0A => exact h.resetBitReg .n0 .a
  | res1B => exact h.resetBitReg .n1 .b
  | res1C => exact h.resetBitReg .n1 .c
  | res1D => exact h.resetBitReg .n1 .d
  | res1E => exact h.resetBitReg .n1 .e
  | res1H => exact h.resetBitReg .n1 .h
  | res1L => exact h.resetBitReg .n1 .l
  | res1AtHl => exact h.resetBitMem .n1
  | res1A => exact h.resetBitReg .n1 .a
  | res2B => exact h.resetBitReg .n2 .b
  | res2C => exact h.resetBitReg .n2 .c
  | res2D => exact h.resetBitReg .n2 .d
  | res2E => exact h.resetBitReg .n2 .e
  | res2H => exact h.resetBitReg .n2 .h
  | res2L => exact h.resetBitReg .n2 .l
  | res2AtHl => exact h.resetBitMem .n2
  | res2A => exact h.resetBitReg .n2 .a
  | res3B => exact h.resetBitReg .n3 .b
  | res3C => exact h.resetBitReg .n3 .c
  | res3D => exact h.resetBitReg .n3 .d
  | res3E => exact h.resetBitReg .n3 .e
  | res3H => exact h.resetBitReg .n3 .h
  | res3L => exact h.resetBitReg .n3 .l
  | res3AtHl => exact h.resetBitMem .n3
  | res3A => exact h.resetBitReg .n3 .a
  | res4B => exact h.resetBitReg .n4 .b
  | res4C => exact h.resetBitReg .n4 .c
  | res4D => exact h.resetBitReg .n4 .d
  | res4E => exact h.resetBitReg .n4 .e
  | res4H => exact h.resetBitReg .n4 .h
  | res4L => exact h.resetBitReg .n4 .l
  | res4AtHl => exact h.resetBitMem .n4
  | res4A => exact h.resetBitReg .n4 .a
  | res5B => exact h.resetBitReg .n5 .b
  | res5C => exact h.resetBitReg .n5 .c
  | res5D => exact h.resetBitReg .n5 .d
  | res5E => exact h.resetBitReg .n5 .e
  | res5H => exact h.resetBitReg .n5 .h
  | res5L => exact h.resetBitReg .n5 .l
  | res5AtHl => exact h.resetBitMem .n5
  | res5A => exact h.resetBitReg .n5 .a
  | res6B => exact h.resetBitReg .n6 .b
  | res6C => exact h.resetBitReg .n6 .c
  | res6D => exact h.resetBitReg .n6 .d
  | res6E => exact h.resetBitReg .n6 .e
  | res6H => exact h.resetBitReg .n6 .h
  | res6L => exact h.resetBitReg .n6 .l
  | res6AtHl => exact h.resetBitMem .n6
  | res6A => exact h.resetBitReg .n6 .a
  | res7B => exact h.resetBitReg .n7 .b
  | res7C => exact h.resetBitReg .n7 .c
  | res7D => exact h.resetBitReg .n7 .d
  | res7E => exact h.resetBitReg .n7 .e
  | res7H => exact h.resetBitReg .n7 .h
  | res7L => exact h.resetBitReg .n7 .l
  | res7AtHl => exact h.resetBitMem .n7
  | res7A => exact h.resetBitReg .n7 .a
  | set0B => exact h.setBitReg .n0 .b
  | set0C => exact h.setBitReg .n0 .c
  | set0D => exact h.setBitReg .n0 .d
  | set0E => exact h.setBitReg .n0 .e
  | set0H => exact h.setBitReg .n0 .h
  | set0L => exact h.setBitReg .n0 .l
  | set0AtHl => exact h.setBitMem .n0
  | set0A => exact h.setBitReg .n0 .a
  | set1B => exact h.setBitReg .n1 .b
  | set1C => exact h.setBitReg .n1 .c
  | set1D => exact h.setBitReg .n1 .d
  | set1E => exact h.setBitReg .n1 .e
  | set1H => exact h.setBitReg .n1 .h
  | set1L => exact h.setBitReg .n1 .l
  | set1AtHl => exact h.setBitMem .n1
  | set1A => exact h.setBitReg .n1 .a
  | set2B => exact h.setBitReg .n2 .b
  | set2C => exact h.setBitReg .n2 .c
  | set2D => exact h.setBitReg .n2 .d
  | set2E => exact h.setBitReg .n2 .e
  | set2H => exact h.setBitReg .n2 .h
  | set2L => exact h.setBitReg .n2 .l
  | set2AtHl => exact h.setBitMem .n2
  | set2A => exact h.setBitReg .n2 .a
  | set3B => exact h.setBitReg .n3 .b
  | set3C => exact h.setBitReg .n3 .c
  | set3D => exact h.setBitReg .n3 .d
  | set3E => exact h.setBitReg .n3 .e
  | set3H => exact h.setBitReg .n3 .h
  | set3L => exact h.setBitReg .n3 .l
  | set3AtHl => exact h.setBitMem .n3
  | set3A => exact h.setBitReg .n3 .a
  | set4B => exact h.setBitReg .n4 .b
  | set4C => exact h.setBitReg .n4 .c
  | set4D => exact h.setBitReg .n4 .d
  | set4E => exact h.setBitReg .n4 .e
  | set4H => exact h.setBitReg .n4 .h
  | set4L => exact h.setBitReg .n4 .l
  | set4AtHl => exact h.setBitMem .n4
  | set4A => exact h.setBitReg .n4 .a
  | set5B => exact h.setBitReg .n5 .b
  | set5C => exact h.setBitReg .n5 .c
  | set5D => exact h.setBitReg .n5 .d
  | set5E => exact h.setBitReg .n5 .e
  | set5H => exact h.setBitReg .n5 .h
  | set5L => exact h.setBitReg .n5 .l
  | set5AtHl => exact h.setBitMem .n5
  | set5A => exact h.setBitReg .n5 .a
  | set6B => exact h.setBitReg .n6 .b
  | set6C => exact h.setBitReg .n6 .c
  | set6D => exact h.setBitReg .n6 .d
  | set6E => exact h.setBitReg .n6 .e
  | set6H => exact h.setBitReg .n6 .h
  | set6L => exact h.setBitReg .n6 .l
  | set6AtHl => exact h.setBitMem .n6
  | set6A => exact h.setBitReg .n6 .a
  | set7B => exact h.setBitReg .n7 .b
  | set7C => exact h.setBitReg .n7 .c
  | set7D => exact h.setBitReg .n7 .d
  | set7E => exact h.setBitReg .n7 .e
  | set7H => exact h.setBitReg .n7 .h
  | set7L => exact h.setBitReg .n7 .l
  | set7AtHl => exact h.setBitMem .n7
  | set7A => exact h.setBitReg .n7 .a

/-- What every meaning of the control group has, every instruction of the control group has. -/
theorem exec_control {P : Result → Prop} {s : State} (h : ControlMeanings P s) (i : Instr)
    (hi : i.isControl = true) : P (exec i s) := by
  cases i
  all_goals first
    | exact absurd hi (by simp only [Instr.isControl]; decide)
    | exact h.returnEnable
    | exact h.haltCpu
    | exact h.stopCpu
    | exact h.disableInterrupts
    | exact h.enableInterrupts
    | exact h.unknownOpcode _

/-- What every shared meaning has, every instruction has. -/
theorem exec_all {P : Result → Prop} {s : State} (h : PlainMeanings P s)
    (hc : ControlMeanings P s) (i : Instr) : P (exec i s) := by
  cases hi : i.isControl
  · exact exec_plain h i hi
  · exact exec_control hc i hi

end Machine

end Sys2Proof
end

