-- ==== Sys2Proof/Laws/ExecFrame.lean ====
section
/-!
SUPPORT. What no instruction touches, and what every instruction keeps: an instruction always gives
a next state (R1100), leaves the parameters, the PPU and the ROM alone, keeps the bus as it should
be and F[3:0] at 0, and, outside the control group, leaves the control bits and the fault log alone.
-/

namespace Sys2Proof.Machine

/-- What every instruction keeps (R102, R202, R231, R254). -/
structure Touched (s t : State) : Prop where
  cfg : t.cfg = s.cfg
  ppu : t.ppu = s.ppu
  start : t.start = s.start
  rom : t.bus.rom = s.bus.rom
  nRom : t.bus.nRom = s.bus.nRom
  nRam : t.bus.nRam = s.bus.nRam
  busOk : BusOk s.cfg s.bus → BusOk t.cfg t.bus
  boot : t.bus.bootEnabled = true → s.bus.bootEnabled = true
  f_low : s.cpu.f &&& 0x0F#8 = 0x00#8 → t.cpu.f &&& 0x0F#8 = 0x00#8

/-- What an instruction of the control group keeps besides: the fault log grows by at most one
record, a faulted CPU stays faulted, and from an awake CPU the HALT bug and waiting exclude each
other (R125, R115, R1010). -/
structure ControlTouched (s t : State) : Prop extends Touched s t where
  faultLog : ∃ l, t.faultLog = s.faultLog ++ l ∧ l.length ≤ 1
  faulted : s.cpu.faulted = true → t.cpu.faulted = true
  bug_awake : s.cpu.haltBug = false → s.cpu.halted = false → s.cpu.stopped = false →
    t.cpu.haltBug = true → t.cpu.halted = false ∧ t.cpu.stopped = false

/-- What an instruction outside the control group keeps besides (R104, R110-R115, R125). -/
structure PlainTouched (s t : State) : Prop extends Touched s t where
  faultLog : t.faultLog = s.faultLog
  ime : t.cpu.ime = s.cpu.ime
  eiDelay : t.cpu.eiDelay = s.cpu.eiDelay
  halted : t.cpu.halted = s.cpu.halted
  stopped : t.cpu.stopped = s.cpu.stopped
  haltBug : t.cpu.haltBug = s.cpu.haltBug
  faulted : t.cpu.faulted = s.cpu.faulted

variable {s t : State}

theorem PlainTouched.refl (s : State) : PlainTouched s s :=
  ⟨⟨rfl, rfl, rfl, rfl, rfl, rfl, id, id, id⟩, rfl, rfl, rfl, rfl, rfl, rfl, rfl⟩

theorem PlainTouched.setCycles (h : PlainTouched s t) (n : Nat) : PlainTouched s (t.setCycles n) :=
  { h with }

theorem PlainTouched.setPc (h : PlainTouched s t) (v : Word) : PlainTouched s (t.setPc v) :=
  { h with }

theorem PlainTouched.setSp (h : PlainTouched s t) (v : Word) : PlainTouched s (t.setSp v) :=
  { h with }

theorem PlainTouched.setFlags (h : PlainTouched s t) (z n hc c : Bool) :
    PlainTouched s (t.setFlags z n hc c) :=
  { h with f_low := fun _ => packFlags_and_low z n hc c }

theorem PlainTouched.setReg8 (h : PlainTouched s t) (r : Reg8) (v : Byte) :
    PlainTouched s (t.setReg8 r v) := by
  cases r <;> exact { h with }

theorem PlainTouched.setReg16 (h : PlainTouched s t) (rr : Reg16) (v : Word) :
    PlainTouched s (t.setReg16 rr v) := by
  cases rr <;> exact { h with }

theorem PlainTouched.setReg16Stack (h : PlainTouched s t) (qq : Reg16Stack) (v : Word) :
    PlainTouched s (t.setReg16Stack qq v) := by
  cases qq
  · exact { h with }
  · exact { h with }
  · exact { h with }
  · exact { h with f_low := fun _ => and_high_and_low (loByte v) }

theorem PlainTouched.memWrite (h : PlainTouched s t) (a : Word) (v : Byte) :
    PlainTouched s (memWrite a v t) where
  cfg := (memWrite_cfg a v t).trans h.cfg
  ppu := (memWrite_ppu a v t).trans h.ppu
  start := (memWrite_start a v t).trans h.start
  rom := (memWrite_rom a v t).trans h.rom
  nRom := (memWrite_nRom a v t).trans h.nRom
  nRam := (memWrite_nRam a v t).trans h.nRam
  busOk := fun hb => (h.busOk hb).memWrite a v
  boot := fun hb => h.boot (memWrite_bootEnabled a v t hb)
  f_low := fun hf => by rw [memWrite_cpu]; exact h.f_low hf
  faultLog := (memWrite_faultLog a v t).trans h.faultLog
  ime := by rw [memWrite_cpu]; exact h.ime
  eiDelay := by rw [memWrite_cpu]; exact h.eiDelay
  halted := by rw [memWrite_cpu]; exact h.halted
  stopped := by rw [memWrite_cpu]; exact h.stopped
  haltBug := by rw [memWrite_cpu]; exact h.haltBug
  faulted := by rw [memWrite_cpu]; exact h.faulted

theorem PlainTouched.push16 (h : PlainTouched s t) (v : Word) : PlainTouched s (push16 v t) := by
  rw [push16_eq]
  exact { (h.memWrite (t.cpu.sp - 1#16) (hiByte v)).memWrite (t.cpu.sp - 2#16) (loByte v) with
    f_low := h.f_low
    ime := h.ime
    eiDelay := h.eiDelay
    halted := h.halted
    stopped := h.stopped
    haltBug := h.haltBug
    faulted := h.faulted }

/-- Every meaning outside the control group gives a next state and keeps what it should. -/
theorem plainMeanings_touched (s : State) :
    PlainMeanings (fun r => ∃ t, r = .next t ∧ PlainTouched s t) s where
  nop := ⟨_, rfl, (PlainTouched.refl s).setCycles 1⟩
  ldRegReg := fun d r => ⟨_, rfl, ((PlainTouched.refl s).setReg8 d _).setCycles _⟩
  aluReg := fun o r => by
    refine ⟨_, rfl, (PlainTouched.setFlags ?_ _ _ _ _).setCycles _⟩
    cases aluWritesA o
    · exact PlainTouched.refl s
    · exact (PlainTouched.refl s).setReg8 .a _
  rotReg := fun o r => ⟨_, rfl, (((PlainTouched.refl s).setReg8 r _).setFlags _ _ _ _).setCycles _⟩
  testBitReg := fun k r => ⟨_, rfl, ((PlainTouched.refl s).setFlags _ _ _ _).setCycles _⟩
  resetBitReg := fun k r => ⟨_, rfl, ((PlainTouched.refl s).setReg8 r _).setCycles _⟩
  setBitReg := fun k r => ⟨_, rfl, ((PlainTouched.refl s).setReg8 r _).setCycles _⟩
  ldRegImm := fun r n => ⟨_, rfl, ((PlainTouched.refl s).setReg8 r _).setCycles _⟩
  ldRegMem := fun r => ⟨_, rfl, ((PlainTouched.refl s).setReg8 r _).setCycles _⟩
  ldMemReg := fun r => ⟨_, rfl, ((PlainTouched.refl s).memWrite _ _).setCycles _⟩
  ldMemImm := fun n => ⟨_, rfl, ((PlainTouched.refl s).memWrite _ _).setCycles _⟩
  loadA := fun a n => ⟨_, rfl, ((PlainTouched.refl s).setReg8 .a _).setCycles _⟩
  storeA := fun a n => ⟨_, rfl, ((PlainTouched.refl s).memWrite _ _).setCycles _⟩
  loadAStepHl := fun d =>
    ⟨_, rfl, (((PlainTouched.refl s).setReg8 .a _).setReg16 .hl _).setCycles _⟩
  storeAStepHl := fun d =>
    ⟨_, rfl, (((PlainTouched.refl s).memWrite _ _).setReg16 .hl _).setCycles _⟩
  ldPairImm := fun rr v => ⟨_, rfl, ((PlainTouched.refl s).setReg16 rr v).setCycles _⟩
  ldSpFromHl := ⟨_, rfl, ((PlainTouched.refl s).setSp _).setCycles _⟩
  storeSp := fun a => ⟨_, rfl, (((PlainTouched.refl s).memWrite _ _).memWrite _ _).setCycles _⟩
  pushPair := fun qq => ⟨_, rfl, ((PlainTouched.refl s).push16 _).setCycles _⟩
  popPair := fun qq =>
    ⟨_, rfl, (((PlainTouched.refl s).setSp _).setReg16Stack qq _).setCycles _⟩
  aluMem := fun o => by
    refine ⟨_, rfl, (PlainTouched.setFlags ?_ _ _ _ _).setCycles _⟩
    cases aluWritesA o
    · exact PlainTouched.refl s
    · exact (PlainTouched.refl s).setReg8 .a _
  aluImm := fun o n => by
    refine ⟨_, rfl, (PlainTouched.setFlags ?_ _ _ _ _).setCycles _⟩
    cases aluWritesA o
    · exact PlainTouched.refl s
    · exact (PlainTouched.refl s).setReg8 .a _
  incReg := fun r => ⟨_, rfl, (((PlainTouched.refl s).setReg8 r _).setFlags _ _ _ _).setCycles _⟩
  incMem := ⟨_, rfl, (((PlainTouched.refl s).memWrite _ _).setFlags _ _ _ _).setCycles _⟩
  decReg := fun r => ⟨_, rfl, (((PlainTouched.refl s).setReg8 r _).setFlags _ _ _ _).setCycles _⟩
  decMem := ⟨_, rfl, (((PlainTouched.refl s).memWrite _ _).setFlags _ _ _ _).setCycles _⟩
  daaA := ⟨_, rfl, (((PlainTouched.refl s).setReg8 .a _).setFlags _ _ _ _).setCycles _⟩
  complementA := ⟨_, rfl, (((PlainTouched.refl s).setReg8 .a _).setFlags _ _ _ _).setCycles _⟩
  setCarry := ⟨_, rfl, ((PlainTouched.refl s).setFlags _ _ _ _).setCycles _⟩
  complementCarry := ⟨_, rfl, ((PlainTouched.refl s).setFlags _ _ _ _).setCycles _⟩
  stepPair := fun rr d => ⟨_, rfl, ((PlainTouched.refl s).setReg16 rr _).setCycles _⟩
  addHlPair := fun rr =>
    ⟨_, rfl, (((PlainTouched.refl s).setReg16 .hl _).setFlags _ _ _ _).setCycles _⟩
  addSp := fun e => ⟨_, rfl, (((PlainTouched.refl s).setSp _).setFlags _ _ _ _).setCycles _⟩
  hlFromSp := fun e =>
    ⟨_, rfl, (((PlainTouched.refl s).setReg16 .hl _).setFlags _ _ _ _).setCycles _⟩
  rotA := fun o => ⟨_, rfl, (((PlainTouched.refl s).setReg8 .a _).setFlags _ _ _ _).setCycles _⟩
  rotMem := fun o => ⟨_, rfl, (((PlainTouched.refl s).memWrite _ _).setFlags _ _ _ _).setCycles _⟩
  testBitMem := fun k => ⟨_, rfl, ((PlainTouched.refl s).setFlags _ _ _ _).setCycles _⟩
  resetBitMem := fun k => ⟨_, rfl, ((PlainTouched.refl s).memWrite _ _).setCycles _⟩
  setBitMem := fun k => ⟨_, rfl, ((PlainTouched.refl s).memWrite _ _).setCycles _⟩
  jumpTo := fun t => ⟨_, rfl, ((PlainTouched.refl s).setPc _).setCycles _⟩
  jumpIf := fun cc t => by
    simp only [jumpIf]
    split
    · exact ⟨_, rfl, ((PlainTouched.refl s).setPc _).setCycles _⟩
    · exact ⟨_, rfl, (PlainTouched.refl s).setCycles _⟩
  jumpHl := ⟨_, rfl, ((PlainTouched.refl s).setPc _).setCycles _⟩
  jumpRel := fun e => ⟨_, rfl, ((PlainTouched.refl s).setPc _).setCycles _⟩
  jumpRelIf := fun cc e => by
    simp only [jumpRelIf]
    split
    · exact ⟨_, rfl, ((PlainTouched.refl s).setPc _).setCycles _⟩
    · exact ⟨_, rfl, (PlainTouched.refl s).setCycles _⟩
  callTo := fun t => ⟨_, rfl, (((PlainTouched.refl s).push16 _).setPc _).setCycles _⟩
  callIf := fun cc t => by
    simp only [callIf]
    split
    · exact ⟨_, rfl, (((PlainTouched.refl s).push16 _).setPc _).setCycles _⟩
    · exact ⟨_, rfl, (PlainTouched.refl s).setCycles _⟩
  returnPlain := ⟨_, rfl, (((PlainTouched.refl s).setSp _).setPc _).setCycles _⟩
  returnIf := fun cc => by
    simp only [returnIf]
    split
    · exact ⟨_, rfl, (((PlainTouched.refl s).setSp _).setPc _).setCycles _⟩
    · exact ⟨_, rfl, (PlainTouched.refl s).setCycles _⟩
  restart := fun t => ⟨_, rfl, (((PlainTouched.refl s).push16 _).setPc _).setCycles _⟩

/-- Every instruction outside the control group gives a next state and keeps what it should. -/
theorem exec_plainTouched (i : Instr) (hi : i.isControl = false) (s : State) :
    ∃ t, exec i s = .next t ∧ PlainTouched s t :=
  exec_plain (plainMeanings_touched s) i hi

theorem PlainTouched.toControl (h : PlainTouched s t) : ControlTouched s t :=
  { h with
    faultLog := ⟨[], by simp [h.faultLog], by simp⟩
    faulted := fun hf => h.faulted.trans hf
    bug_awake := fun _ h2 h3 _ => ⟨h.halted.trans h2, h.stopped.trans h3⟩ }

/-- The control group gives next states too. -/
theorem controlMeanings_touched (s : State) :
    ControlMeanings (fun r => ∃ t, r = .next t ∧ ControlTouched s t) s where
  returnEnable := ⟨_, rfl, { (PlainTouched.refl s).toControl with }⟩
  haltCpu := by
    simp only [haltCpu]
    split
    · exact ⟨_, rfl, { (PlainTouched.refl s).toControl with bug_awake := fun _ h2 h3 _ => ⟨h2, h3⟩ }⟩
    · refine ⟨_, rfl, { (PlainTouched.refl s).toControl with bug_awake := fun h1 _ _ h4 => ?_ }⟩
      exact absurd (h1.symm.trans h4) (by decide)
  stopCpu := by
    refine ⟨_, rfl, { (PlainTouched.refl s).toControl with bug_awake := fun h1 _ _ h4 => ?_ }⟩
    exact absurd (h1.symm.trans h4) (by decide)
  disableInterrupts := ⟨_, rfl, { (PlainTouched.refl s).toControl with }⟩
  enableInterrupts := ⟨_, rfl, { (PlainTouched.refl s).toControl with }⟩
  unknownOpcode := fun op => by
    refine ⟨_, rfl, ?_⟩
    rw [fallback_state]
    exact { (PlainTouched.refl s).toControl with
      faultLog := ⟨[FaultRecord.mk s.start (zext16 op)], rfl, by simp⟩
      faulted := fun h => by simp [h] }

/-- Every instruction gives a next state and keeps what it should (R1100). -/
theorem exec_touched (i : Instr) (s : State) : ∃ t, exec i s = .next t ∧ ControlTouched s t := by
  cases hi : i.isControl
  · obtain ⟨t, h, ht⟩ := exec_plainTouched i hi s
    exact ⟨t, h, ht.toControl⟩
  · exact exec_control (controlMeanings_touched s) i hi

end Sys2Proof.Machine
end

