-- ==== Sys2Proof/Laws/Ppu.lean ====
section
/-!
SUPPORT. The renderer and the PPU tick: what each changes and what it keeps.
-/

namespace Sys2Proof.Machine

/-! ## Drawing -/

theorem drawPixels_frame (k : Nat) (pixels : List (BitVec 32)) (s : State) :
    drawPixels s k pixels = { s with ppu := { s.ppu with fb := (drawPixels s k pixels).ppu.fb } } := by
  induction pixels generalizing s k with
  | nil => rfl
  | cons p rest ih =>
    have h := ih (k + 1) (s.setFbAt k p)
    simp only [drawPixels]
    rw [h]
    rfl

/-- Drawing changes the framebuffer and nothing else (R1180). -/
theorem renderLine_frame (y : Nat) (s : State) :
    renderLine y s = { s with ppu := { s.ppu with fb := (renderLine y s).ppu.fb } } :=
  drawPixels_frame _ _ s

@[simp] theorem renderLine_cfg (y : Nat) (s : State) : (renderLine y s).cfg = s.cfg := by
  rw [renderLine_frame]
@[simp] theorem renderLine_cpu (y : Nat) (s : State) : (renderLine y s).cpu = s.cpu := by
  rw [renderLine_frame]
@[simp] theorem renderLine_bus (y : Nat) (s : State) : (renderLine y s).bus = s.bus := by
  rw [renderLine_frame]
@[simp] theorem renderLine_faultLog (y : Nat) (s : State) :
    (renderLine y s).faultLog = s.faultLog := by
  rw [renderLine_frame]
@[simp] theorem renderLine_mcycles (y : Nat) (s : State) :
    (renderLine y s).mcycles = s.mcycles := by
  rw [renderLine_frame]
@[simp] theorem renderLine_start (y : Nat) (s : State) : (renderLine y s).start = s.start := by
  rw [renderLine_frame]
@[simp] theorem renderLine_dot (y : Nat) (s : State) : (renderLine y s).ppu.dot = s.ppu.dot := by
  rw [renderLine_frame]
@[simp] theorem renderLine_ly (y : Nat) (s : State) : (renderLine y s).ppu.ly = s.ppu.ly := by
  rw [renderLine_frame]
@[simp] theorem renderLine_mode (y : Nat) (s : State) : (renderLine y s).ppu.mode = s.ppu.mode := by
  rw [renderLine_frame]
@[simp] theorem renderLine_statLine (y : Nat) (s : State) :
    (renderLine y s).ppu.statLine = s.ppu.statLine := by
  rw [renderLine_frame]

/-- The framebuffer in canonical form, over pixels that exist. -/
structure FbOk (s : State) : Prop where
  wf : Cells.wf (fun _ => s.cfg.fbInit) s.ppu.fb = true
  keys : ∀ q ∈ s.ppu.fb, q.1 < 160 * 144

theorem drawPixels_fbOk {s : State} (h : FbOk s) (k : Nat) (pixels : List (BitVec 32))
    (hk : k + pixels.length ≤ 160 * 144) : FbOk (drawPixels s k pixels) := by
  induction pixels generalizing s k with
  | nil => exact h
  | cons p rest ih =>
    simp only [List.length_cons] at hk
    refine ih ?_ (k + 1) (by omega)
    exact ⟨Cells.wf_set k p h.wf, Cells.keys_set (fun j => j < 160 * 144) p (by omega) h.keys⟩

/-- A row in hand as 160 pixels stays 160 pixels. -/
theorem objPixel_length (s : State) (y i : Nat) (bgc : List (BitVec 2)) (line : List (BitVec 32))
    (c : Nat) : (objPixel s y i bgc line c).length = line.length := by
  unfold objPixel
  simp only []
  generalize (if (oamByte s i 3).getLsbD 5 = true then c else 7 - c) = b
  split
  · simp
  · rfl

theorem foldl_length {α β : Type} {f : List α → β → List α}
    (hf : ∀ l b, (f l b).length = l.length) (bs : List β) (l : List α) :
    (bs.foldl f l).length = l.length := by
  induction bs generalizing l with
  | nil => rfl
  | cons b bs ih => rw [List.foldl_cons, ih, hf]

theorem objDraw_length (s : State) (y : Nat) (bgc : List (BitVec 2)) (line : List (BitVec 32))
    (i : Nat) : (objDraw s y bgc line i).length = line.length :=
  foldl_length (objPixel_length s y i bgc) _ line

/-- A row has 160 pixels (R1180). -/
theorem linePixels_length (s : State) (y : Nat) : (linePixels s y).length = 160 := by
  have hbase : ((bgLine s y).map (palettePixel s (s.io 0x47))).length = 160 := by simp [bgLine]
  simp only [linePixels]
  split
  · rw [foldl_length (objDraw_length s y (bgLine s y)), hbase]
  · exact hbase

theorem renderLine_fbOk {s : State} (h : FbOk s) {y : Nat} (hy : y < 144) :
    FbOk (renderLine y s) := by
  refine drawPixels_fbOk h _ _ ?_
  rw [linePixels_length]
  omega

/-! ## The framebuffer after drawing -/

theorem fbAt_drawPixels {s : State} (h : FbOk s) (k : Nat) (pixels : List (BitVec 32)) (j : Nat) :
    (drawPixels s k pixels).fbAt j =
      if k ≤ j ∧ j < k + pixels.length then pixels.getD (j - k) 0#32 else s.fbAt j := by
  have hwf := h.wf
  clear h
  induction pixels generalizing s k with
  | nil =>
    have h : ¬ (k ≤ j ∧ j < k + 0) := by omega
    rw [List.length_nil, if_neg h]
    rfl
  | cons p rest ih =>
    have hset := State.fbAt_setFbAt hwf k j p
    have ih' := ih (s := s.setFbAt k p) (k + 1) (Cells.wf_set k p hwf)
    simp only [drawPixels, ih', hset, List.length_cons]
    by_cases hj : j = k
    · subst hj
      rw [if_neg (by omega), if_pos rfl, if_pos (by omega)]
      simp
    · by_cases hr : k + 1 ≤ j ∧ j < k + 1 + rest.length
      · rw [if_pos hr, if_pos (by omega)]
        obtain ⟨d, rfl⟩ : ∃ d, j = k + 1 + d := ⟨j - (k + 1), by omega⟩
        rw [show k + 1 + d - (k + 1) = d by omega, show k + 1 + d - k = d + 1 by omega]
        simp
      · rw [if_neg hr, if_neg hj, if_neg (by omega)]

/-! ## The tick (R1150) -/

/-- The state in which a new line has been entered and, if visible, drawn (R1150). -/
def lineEntered (s : State) : State :=
  let s1 := { s with ppu := { s.ppu with dot := s.ppu.dot - 456, ly := (s.ppu.ly + 1) % 154 } }
  if (s.ppu.ly + 1) % 154 < 144 then renderLine ((s.ppu.ly + 1) % 154) s1 else s1

theorem crossLine_eq (s : State) :
    crossLine s = if (s.ppu.ly + 1) % 154 = 144 then request 0 (lineEntered s) else lineEntered s :=
  rfl

theorem lineEntered_frame (s : State) :
    lineEntered s = { s with ppu := { s.ppu with
      dot := s.ppu.dot - 456, ly := (s.ppu.ly + 1) % 154, fb := (lineEntered s).ppu.fb } } := by
  simp only [lineEntered]
  split
  · rw [renderLine_frame]
  · rfl

theorem crossLine_frame (s : State) :
    (crossLine s).cfg = s.cfg ∧ (crossLine s).cpu = s.cpu ∧ (crossLine s).faultLog = s.faultLog ∧
      (crossLine s).mcycles = s.mcycles ∧ (crossLine s).start = s.start ∧
      (crossLine s).ppu.dot = s.ppu.dot - 456 ∧ (crossLine s).ppu.ly = (s.ppu.ly + 1) % 154 ∧
      (crossLine s).ppu.mode = s.ppu.mode ∧ (crossLine s).ppu.statLine = s.ppu.statLine := by
  rw [crossLine_eq]
  split <;> rw [lineEntered_frame] <;> simp [request]

theorem BusOk.crossLine {s : State} (h : BusOk s.cfg s.bus) :
    BusOk (crossLine s).cfg (crossLine s).bus := by
  have h1 : BusOk (lineEntered s).cfg (lineEntered s).bus := by
    rw [lineEntered_frame]
    exact h
  rw [crossLine_eq]
  split
  · exact h1.request 0
  · exact h1

theorem crossLine_fbOk {s : State} (h : FbOk s) : FbOk (crossLine s) := by
  have h1 : FbOk (lineEntered s) := by
    simp only [lineEntered]
    split
    · next hy =>
      refine renderLine_fbOk ?_ hy
      exact ⟨h.wf, h.keys⟩
    · exact ⟨h.wf, h.keys⟩
  rw [crossLine_eq]
  split
  · exact ⟨by simpa [request] using h1.wf, by simpa [request] using h1.keys⟩
  · exact h1

/-- What a run of line crossings keeps and where the counters go (R1150, R1151). -/
theorem crossLines_frame (n : Nat) (s : State) :
    (crossLines n s).cfg = s.cfg ∧ (crossLines n s).cpu = s.cpu ∧
      (crossLines n s).faultLog = s.faultLog ∧ (crossLines n s).mcycles = s.mcycles ∧
      (crossLines n s).start = s.start ∧ (crossLines n s).ppu.dot = s.ppu.dot - 456 * n ∧
      (s.ppu.ly < 154 → (crossLines n s).ppu.ly = (s.ppu.ly + n) % 154) ∧
      (crossLines n s).ppu.mode = s.ppu.mode ∧
      (crossLines n s).ppu.statLine = s.ppu.statLine := by
  induction n generalizing s with
  | zero => simp [crossLines]; omega
  | succ n ih =>
    obtain ⟨h1, h2, h3, h4, h5, h6, h7, h8, h9⟩ := crossLine_frame s
    obtain ⟨i1, i2, i3, i4, i5, i6, i7, i8, i9⟩ := ih (crossLine s)
    simp only [crossLines]
    refine ⟨i1.trans h1, i2.trans h2, i3.trans h3, i4.trans h4, i5.trans h5, ?_, ?_, i8.trans h8,
      i9.trans h9⟩
    · rw [i6, h6]; omega
    · intro _
      rw [i7 (by rw [h7]; omega), h7]
      omega

theorem BusOk.crossLines (n : Nat) {s : State} (h : BusOk s.cfg s.bus) :
    BusOk (crossLines n s).cfg (crossLines n s).bus := by
  induction n generalizing s with
  | zero => exact h
  | succ n ih => exact ih h.crossLine

theorem crossLines_fbOk (n : Nat) {s : State} (h : FbOk s) : FbOk (crossLines n s) := by
  induction n generalizing s with
  | zero => exact h
  | succ n ih => exact ih (crossLine_fbOk h)

/-- The STAT line's update writes only `stat_line` and, on a rising edge, IF (R1160). -/
theorem updateStatLine_frame (s : State) :
    (updateStatLine s).cfg = s.cfg ∧ (updateStatLine s).cpu = s.cpu ∧
      (updateStatLine s).faultLog = s.faultLog ∧ (updateStatLine s).mcycles = s.mcycles ∧
      (updateStatLine s).start = s.start ∧
      (updateStatLine s).ppu = { s.ppu with statLine := statLineNow s } := by
  simp only [updateStatLine]
  split <;> simp [request]

theorem BusOk.updateStatLine {s : State} (h : BusOk s.cfg s.bus) :
    BusOk (updateStatLine s).cfg (updateStatLine s).bus := by
  simp only [Machine.updateStatLine]
  split
  · exact h.request 1
  · exact h

/-- With the LCD off a tick does nothing (R1155). -/
theorem ppuTick_off {s : State} (h : (s.io 0x40).getLsbD 7 = false) (d : Nat) : ppuTick d s = s := by
  rw [ppuTick, if_neg (by simp only [h]; decide)]

/-- A tick with the LCD on, as its three stages (R1150). -/
theorem ppuTick_on {s : State} (h : (s.io 0x40).getLsbD 7 = true) (d : Nat) :
    ppuTick d s = updateStatLine (updateMode (crossLines ((s.ppu.dot + d) / 456)
      { s with ppu := { s.ppu with dot := s.ppu.dot + d } })) := by
  rw [ppuTick, if_pos h]

/-- What no tick touches (R1150). -/
theorem ppuTick_frame (d : Nat) (s : State) :
    (ppuTick d s).cfg = s.cfg ∧ (ppuTick d s).cpu = s.cpu ∧
      (ppuTick d s).faultLog = s.faultLog ∧ (ppuTick d s).mcycles = s.mcycles ∧
      (ppuTick d s).start = s.start := by
  by_cases h : (s.io 0x40).getLsbD 7 = true
  · rw [ppuTick_on h]
    obtain ⟨h1, h2, h3, h4, h5, -⟩ := updateStatLine_frame (updateMode
      (crossLines ((s.ppu.dot + d) / 456) { s with ppu := { s.ppu with dot := s.ppu.dot + d } }))
    obtain ⟨i1, i2, i3, i4, i5, -⟩ := crossLines_frame ((s.ppu.dot + d) / 456)
      { s with ppu := { s.ppu with dot := s.ppu.dot + d } }
    exact ⟨h1.trans i1, h2.trans i2, h3.trans i3, h4.trans i4, h5.trans i5⟩
  · rw [ppuTick_off (by simpa using h)]
    simp

theorem BusOk.ppuTick {s : State} (h : BusOk s.cfg s.bus) (d : Nat) :
    BusOk (ppuTick d s).cfg (ppuTick d s).bus := by
  by_cases ho : (s.io 0x40).getLsbD 7 = true
  · rw [ppuTick_on ho]
    have h1 := BusOk.crossLines ((s.ppu.dot + d) / 456)
      (s := { s with ppu := { s.ppu with dot := s.ppu.dot + d } }) h
    exact BusOk.updateStatLine (s := updateMode _) h1
  · rw [ppuTick_off (by simpa using ho)]
    exact h

/-- A tick moves the dot counter and the scanline by whole lines, keeping the overrun (R1150). -/
theorem ppuTick_counters {s : State} (ho : (s.io 0x40).getLsbD 7 = true) (hl : s.ppu.ly < 154)
    (d : Nat) :
    (ppuTick d s).ppu.dot = (s.ppu.dot + d) % 456 ∧
      (ppuTick d s).ppu.ly = (s.ppu.ly + (s.ppu.dot + d) / 456) % 154 ∧
      (ppuTick d s).ppu.mode = modeOf (ppuTick d s).ppu.ly (ppuTick d s).ppu.dot := by
  rw [ppuTick_on ho]
  obtain ⟨-, -, -, -, -, h6⟩ := updateStatLine_frame (updateMode
    (crossLines ((s.ppu.dot + d) / 456) { s with ppu := { s.ppu with dot := s.ppu.dot + d } }))
  obtain ⟨-, -, -, -, -, i6, i7, -⟩ := crossLines_frame ((s.ppu.dot + d) / 456)
    { s with ppu := { s.ppu with dot := s.ppu.dot + d } }
  rw [h6]
  refine ⟨?_, ?_, rfl⟩
  · simp only [updateMode, i6]
    have := Nat.div_add_mod (s.ppu.dot + d) 456
    omega
  · exact i7 hl

theorem PpuOk.ppuTick {s : State} (h : PpuOk s.cfg s.ppu) (d : Nat) :
    PpuOk (ppuTick d s).cfg (ppuTick d s).ppu := by
  by_cases ho : (s.io 0x40).getLsbD 7 = true
  · obtain ⟨c1, c2, c3⟩ := ppuTick_counters ho h.ly_lt d
    have hfb : FbOk (Machine.ppuTick d s) := by
      rw [ppuTick_on ho]
      have h1 := crossLines_fbOk ((s.ppu.dot + d) / 456)
        (s := { s with ppu := { s.ppu with dot := s.ppu.dot + d } }) ⟨h.fb_wf, h.fb_keys⟩
      obtain ⟨e1, -, -, -, -, e6⟩ := updateStatLine_frame (updateMode
        (crossLines ((s.ppu.dot + d) / 456) { s with ppu := { s.ppu with dot := s.ppu.dot + d } }))
      refine ⟨?_, ?_⟩
      · rw [e1, e6]; exact h1.wf
      · rw [e6]; exact h1.keys
    exact ⟨hfb.wf, hfb.keys, by rw [c1]; omega, by rw [c2]; omega, c3⟩
  · rw [ppuTick_off (by simpa using ho)]
    exact h

end Sys2Proof.Machine
end

