-- ==== Sys2Proof/Laws/Step.lean ====
section
/-!
SUPPORT. The CPU step: what a fetch leaves, what a wake-up leaves, the ways a step can go, and what
every step keeps.
-/

namespace Sys2Proof.Machine

/-! ## Fetching -/

/-- A fetch leaves the state with pc moved and the HALT bug spent, and nothing else changed. -/
def Fetching (s t : State) : Prop :=
  ∃ pc st, t = { s with cpu := { s.cpu with pc := pc, haltBug := false }, start := st }

theorem Fetching.fetch8 (s : State) : Fetching s (fetch8 s).2 := by
  rw [fetch8_state]
  cases hb : s.cpu.haltBug
  · exact ⟨s.cpu.pc + 1#16, s.start, by simp [← hb]⟩
  · exact ⟨s.cpu.pc, s.start, by simp⟩

theorem Fetching.trans {s t u : State} (h : Fetching s t) (h' : Fetching t u) : Fetching s u := by
  obtain ⟨pc, st, rfl⟩ := h
  obtain ⟨pc', st', rfl⟩ := h'
  exact ⟨pc', st', rfl⟩

theorem Fetching.fetch16 (s : State) : Fetching s (fetch16 s).2 :=
  (Fetching.fetch8 s).trans (Fetching.fetch8 _)

/-- The state a fetch ends in. -/
def Fetched.state (f : Fetched) : State :=
  match f with
  | .instr _ s => s
  | .unknown _ s => s

theorem fetchOperands_fetching (op : Byte) {s t : State} (h : Fetching s t) :
    Fetching s (fetchOperands op t).state := by
  simp only [fetchOperands]
  split
  · exact h
  · exact h.trans (Fetching.fetch8 t)
  · exact h.trans (Fetching.fetch16 t)
  · exact h.trans (Fetching.fetch8 t)

/-- Fetching an instruction changes pc, the HALT bug and `start` alone (R20, R330). -/
theorem fetchInstr_fetching (s : State) : Fetching s (fetchInstr s).state := by
  have h0 : Fetching s (fetch8 { s with start := s.cpu.pc }).2 := by
    obtain ⟨pc, st, h⟩ := Fetching.fetch8 { s with start := s.cpu.pc }
    exact ⟨pc, st, h⟩
  simp only [fetchInstr]
  split
  · simp only [fetchCb]
    split
    · exact h0.trans (Fetching.fetch8 _)
    · exact h0.trans (Fetching.fetch8 _)
  · split
    · exact fetchOperands_fetching _ h0
    · exact h0

/-! ## What a CPU step keeps -/

/-- What every CPU step keeps. -/
structure StepKept (s t : State) : Prop where
  cfg : t.cfg = s.cfg
  ppu : t.ppu = s.ppu
  rom : t.bus.rom = s.bus.rom
  nRom : t.bus.nRom = s.bus.nRom
  nRam : t.bus.nRam = s.bus.nRam
  busOk : BusOk s.cfg s.bus → BusOk t.cfg t.bus
  cpuOk : CpuOk s.cpu → CpuOk t.cpu
  boot : t.bus.bootEnabled = true → s.bus.bootEnabled = true
  faultLog : ∃ l, t.faultLog = s.faultLog ++ l ∧ l.length ≤ 1
  faulted : s.cpu.faulted = true → t.cpu.faulted = true

theorem StepKept.refl (s : State) : StepKept s s :=
  ⟨rfl, rfl, rfl, rfl, rfl, id, id, id, ⟨[], by simp, by simp⟩, id⟩

theorem commitEi_frame (armed : Bool) (s : State) :
    commitEi armed s = { s with cpu := { s.cpu with
      ime := (armed && s.cpu.eiDelay) || s.cpu.ime
      eiDelay := !armed && s.cpu.eiDelay } } := by
  cases armed <;> cases h : s.cpu.eiDelay <;> simp [commitEi, h]
  all_goals rw [← h]

theorem StepKept.commitEi {s t : State} (h : StepKept s t) (armed : Bool) :
    StepKept s (commitEi armed t) := by
  rw [commitEi_frame]
  exact { h with cpuOk := fun hc => ⟨(h.cpuOk hc).f_low, (h.cpuOk hc).bug_awake⟩ }

/-- Running an instruction from a CPU that is not waiting. -/
theorem runInstr_kept (s : State) (hh : s.cpu.halted = false) (hs : s.cpu.stopped = false) :
    ∃ t, runInstr s = .next t ∧ StepKept s t := by
  obtain ⟨pc, st, hf⟩ := fetchInstr_fetching s
  simp only [runInstr]
  cases hi : fetchInstr s with
  | instr i u =>
    rw [hi] at hf
    simp only [Fetched.state] at hf
    obtain ⟨t, ht, hk⟩ := exec_touched i u
    simp only [ht]
    subst hf
    refine ⟨_, rfl, StepKept.commitEi ?_ _⟩
    exact
      { cfg := hk.cfg, ppu := hk.ppu, rom := hk.rom, nRom := hk.nRom, nRam := hk.nRam
        busOk := hk.busOk
        cpuOk := fun hc => ⟨hk.f_low hc.f_low, hk.bug_awake rfl hh hs⟩
        boot := hk.boot
        faultLog := hk.faultLog
        faulted := hk.faulted }
  | unknown code u =>
    rw [hi] at hf
    simp only [Fetched.state] at hf
    subst hf
    refine ⟨_, rfl, StepKept.commitEi ?_ _⟩
    rw [fallback_state]
    exact { StepKept.refl s with
      cpuOk := fun hc => ⟨hc.f_low, fun h => by simp at h⟩
      faultLog := ⟨[FaultRecord.mk st code], rfl, by simp⟩
      faulted := fun h => by simp [h] }

/-- A CPU that leaves both waits: neither `stopped` nor `halted` is set. -/
def awakened (s : State) : State :=
  { s with cpu := { s.cpu with stopped := false, halted := false } }

theorem unstopped_eq {s : State} (h : s.cpu.stopped = false) :
    { s with cpu := { s.cpu with stopped := false } } = s := by
  obtain ⟨_, ⟨⟩, _, _, _, _, _⟩ := s
  cases h
  rfl

theorem unhalted_eq {s : State} (h : s.cpu.halted = false) :
    { s with cpu := { s.cpu with halted := false } } = s := by
  obtain ⟨_, ⟨⟩, _, _, _, _, _⟩ := s
  cases h
  rfl

/-- STOP's wait, by cases (R330, R1012). -/
theorem wakeStop_cases (s : State) :
    (s.cpu.stopped = true ∧ (s.io 0x0F).getLsbD 4 = false ∧ wakeStop s = (false, s)) ∨
    ((s.cpu.stopped = true → (s.io 0x0F).getLsbD 4 = true) ∧
      wakeStop s = (true, { s with cpu := { s.cpu with stopped := false } })) := by
  cases hs : s.cpu.stopped
  · right
    rw [unstopped_eq hs]
    exact ⟨fun h => absurd h (by decide), by rw [wakeStop, if_neg (by rw [hs]; decide)]⟩
  · cases h4 : (s.io 0x0F).getLsbD 4
    · left
      exact ⟨rfl, rfl, by rw [wakeStop, if_pos hs, if_neg (by rw [h4]; decide)]⟩
    · right
      exact ⟨fun _ => rfl, by rw [wakeStop, if_pos hs, if_pos h4]⟩

/-- HALT's wait, by cases (R330, R1010). -/
theorem wakeHalt_cases (s : State) :
    (s.cpu.halted = true ∧ deliverable s = 0x00#8 ∧ wakeHalt s = (false, s)) ∨
    ((s.cpu.halted = true → deliverable s ≠ 0x00#8) ∧
      wakeHalt s = (true, { s with cpu := { s.cpu with halted := false } })) := by
  cases hs : s.cpu.halted
  · right
    rw [unhalted_eq hs]
    exact ⟨fun h => absurd h (by decide), by rw [wakeHalt, if_neg (by rw [hs]; decide)]⟩
  · by_cases h4 : deliverable s = 0x00#8
    · left
      exact ⟨rfl, h4, by rw [wakeHalt, if_pos hs, if_neg (fun h => h h4)]⟩
    · right
      exact ⟨fun _ => h4, by rw [wakeHalt, if_pos hs, if_pos h4]⟩

/-- The ways a CPU step can go: faulted, waiting in STOP, waiting in HALT, or awake (R330, R1110). -/
theorem cpuStep_cases (s : State) :
    (s.cpu.faulted = true ∧ cpuStep s = .next (s.setCycles 0)) ∨
    (s.cpu.faulted = false ∧ s.cpu.stopped = true ∧ (s.io 0x0F).getLsbD 4 = false ∧
      cpuStep s = .next (s.setCycles 1)) ∨
    (s.cpu.faulted = false ∧ (s.cpu.stopped = true → (s.io 0x0F).getLsbD 4 = true) ∧
      s.cpu.halted = true ∧ deliverable s = 0x00#8 ∧
      cpuStep s = .next ({ s with cpu := { s.cpu with stopped := false } }.setCycles 1)) ∨
    (s.cpu.faulted = false ∧ (s.cpu.stopped = true → (s.io 0x0F).getLsbD 4 = true) ∧
      (s.cpu.halted = true → deliverable s ≠ 0x00#8) ∧ cpuStep s = awakeStep (awakened s)) := by
  cases hf : s.cpu.faulted
  · right
    rcases wakeStop_cases s with ⟨h1, h2, h3⟩ | ⟨h1, h2⟩
    · exact .inl ⟨rfl, h1, h2, by simp [cpuStep, hf, h3]⟩
    · right
      rcases wakeHalt_cases { s with cpu := { s.cpu with stopped := false } } with
        ⟨h3, h4, h5⟩ | ⟨h3, h4⟩
      · refine .inl ⟨rfl, h1, h3, h4, ?_⟩
        rw [cpuStep, if_neg (by rw [hf]; decide), h2]
        simp only [h5]
        rfl
      · refine .inr ⟨rfl, h1, h3, ?_⟩
        rw [cpuStep, if_neg (by rw [hf]; decide), h2]
        simp only [h4]
        rfl
  · exact .inl ⟨rfl, by simp [cpuStep, hf]⟩

/-- Every CPU step gives a next state and keeps what it should (R1100). -/
theorem cpuStep_kept (s : State) : ∃ t, cpuStep s = .next t ∧ StepKept s t := by
  rcases cpuStep_cases s with ⟨-, h⟩ | ⟨-, -, -, h⟩ | ⟨-, -, -, -, h⟩ | ⟨hf, -, -, h⟩
  · exact ⟨_, h, { StepKept.refl s with }⟩
  · exact ⟨_, h, { StepKept.refl s with }⟩
  · refine ⟨_, h, { StepKept.refl s with cpuOk := fun hc => ⟨hc.f_low, fun hb => ?_⟩ }⟩
    exact ⟨(hc.bug_awake hb).1, rfl⟩
  · rw [h]
    simp only [awakeStep]
    cases ht : takenIrq (awakened s) with
    | none =>
      obtain ⟨t, h1, h2⟩ := runInstr_kept (awakened s) rfl rfl
      refine ⟨t, h1, { h2 with cpuOk := fun hc => h2.cpuOk ⟨hc.f_low, fun _ => ⟨rfl, rfl⟩⟩ }⟩
    | some k =>
      refine ⟨_, rfl, ?_⟩
      obtain ⟨f1, f2, f3, f4, f5, f6, f7⟩ := dispatchInterrupt_frame k (awakened s)
      exact
        { cfg := f1, ppu := f2, rom := f5, nRom := f6, nRam := f7
          busOk := fun hb => BusOk.dispatchInterrupt (s := awakened s) hb k
          cpuOk := fun hc => by
            rw [dispatchInterrupt_cpu]
            exact ⟨hc.f_low, fun h => by simp at h⟩
          boot := fun hb => dispatchInterrupt_bootEnabled k (awakened s) hb
          faultLog := ⟨[], by rw [f3, List.append_nil]; rfl, by simp⟩
          faulted := fun hx => by rw [hf] at hx; simp at hx }

/-- A system step is a CPU step and then a tick (R1270). -/
theorem step_of_cpuStep {s t : State} (h : cpuStep s = .next t) : step s = .next (tickAfter t) := by
  simp [step, systemStep, h]

end Sys2Proof.Machine
end

