-- ==== Sys2Proof/Tests/Slice0.lean ====
section
/-!
SUPPORT. Tests: the well-formedness smoke, words written out from the spec's encodings, single steps
of the vectors of 95_test_vectors.md, and for each statement with hypotheses a state that meets them.
-/

namespace Sys2Proof.Tests

open Sys2Proof Sys2Proof.Machine

-- A test checked by the kernel waits for every declaration before it: one at a time.
set_option Elab.async false

/-! ## Helpers -/

/-- Bytes written through the bus from address `a` on. -/
def writeFrom (a : Word) (bytes : List Byte) (s : State) : State :=
  match bytes with
  | [] => s
  | v :: rest => writeFrom (a + 1#16) rest (memWrite a v s)

/-- The reset state with this CPU and bytes at its pc. -/
def placed (c : Cpu) (bytes : List Byte) : State :=
  writeFrom c.pc bytes { State.reset with cpu := c }

/-- The reset state with bytes at 0xC000, pc there and the stack in work RAM. -/
def code (bytes : List Byte) : State :=
  placed { Cpu.reset with pc := 0xC000#16, sp := 0xDFF0#16 } bytes

/-- `code` with the control bits, IE and IF as given. -/
def ready (ime eiDelay halted stopped haltBug : Bool) (ie if_ : Byte) (bytes : List Byte) : State :=
  let s := (code bytes).setIo 0x0F if_
  { s with
    bus := { s.bus with ie := ie }
    cpu := { s.cpu with
      ime := ime, eiDelay := eiDelay, halted := halted, stopped := stopped, haltBug := haltBug } }

/-- The state a CPU step ends in. -/
def after (s : State) : State :=
  match cpuStep s with
  | .next t => t
  | _ => s

/-- The state an instruction ends in. -/
def ran (i : Instr) (s : State) : State :=
  match exec i s with
  | .next t => t
  | _ => s

theorem reset_busOk : BusOk State.reset.cfg State.reset.bus :=
  ⟨rfl, rfl, rfl, by simp [State.reset, Bus.reset], by simp [State.reset, Bus.reset],
    by simp [State.reset, Bus.reset], by decide, by decide⟩

theorem reset_ppuOk : PpuOk State.reset.cfg State.reset.ppu :=
  ⟨rfl, by simp [State.reset, Ppu.reset], by decide, by decide, rfl⟩

theorem busOk_writeFrom (a : Word) (bytes : List Byte) {s : State} (h : BusOk s.cfg s.bus) :
    BusOk (writeFrom a bytes s).cfg (writeFrom a bytes s).bus := by
  induction bytes generalizing a s with
  | nil => exact h
  | cons v rest ih => exact ih _ (h.memWrite a v)

theorem busOk_placed (c : Cpu) (bytes : List Byte) :
    BusOk (placed c bytes).cfg (placed c bytes).bus :=
  busOk_writeFrom _ _ (s := { State.reset with cpu := c }) reset_busOk

theorem busOk_code (bytes : List Byte) : BusOk (code bytes).cfg (code bytes).bus :=
  busOk_placed _ _

theorem busOk_ready (ime eiDelay halted stopped haltBug : Bool) (ie if_ : Byte)
    (bytes : List Byte) :
    BusOk (ready ime eiDelay halted stopped haltBug ie if_ bytes).cfg
      (ready ime eiDelay halted stopped haltBug ie if_ bytes).bus :=
  { (busOk_code bytes).setIo (n := 0x0F) (by omega) if_ with }

/-- The reset state with other values of LCDC and STAT. -/
def picture (lcdc stat : Byte) : State := (State.reset.setIo 0x40 lcdc).setIo 0x41 stat

theorem inv_picture (lcdc stat : Byte) : Inv (picture lcdc stat) :=
  ⟨(reset_busOk.setIo (n := 0x40) (by omega) lcdc).setIo (n := 0x41) (by omega) stat, reset_ppuOk,
    ⟨(by decide : Cpu.reset.f &&& 0x0F#8 = 0x00#8), fun h => absurd h (by decide : ¬ Cpu.reset.haltBug = true)⟩⟩

/-! ## Well-formedness -/

/-- R320: each of the eleven unused rows is refused. -/
theorem test_illegal_rows_refused :
    ([.illegalD3, .illegalDB, .illegalDD, .illegalE3, .illegalE4, .illegalEB, .illegalEC,
      .illegalED, .illegalF4, .illegalFC, .illegalFD] : List Instr).all
        (fun i => !i.wellFormed) = true := by decide

/-- Rows that are instructions are accepted. -/
theorem test_rows_accepted :
    Instr.nop.wellFormed = true ∧ (Instr.ldHlD16 0x5821#16).wellFormed = true ∧
      Instr.srlA.wellFormed = true ∧ (Instr.stop 0xFF#8).wellFormed = true := by decide

/-- R15: the default parameters are within their bounds; 0 dots per machine cycle and two equal
shades are not. -/
theorem test_config_bounds :
    Config.default.wf = true ∧ { Config.default with dotsPerMCycle := 0 }.wf = false ∧
      { Config.default with shade := ⟨1#32, 2#32, 2#32, 3#32⟩ }.wf = false := by decide

/-- Bytes that end too early are refused, each by its name. -/
theorem test_short_bytes_refused :
    decode [] = .error .noOpcode ∧ decode [0x3E#8] = .error (.missingOperand 0x3E#8) ∧
      decode [0xC3#8, 0x00#8] = .error (.missingOperand 0xC3#8) ∧
      decode [0xCB#8] = .error .missingCbOpcode := by decide +kernel

/-! ## Decoding, by words written from the encodings -/

/-- R403 `01 rrr 110`, R404 `01 110 rrr`, R405 `0x36`, R411 `0xF0`, R417 `0x32`, R432 `0x08`,
R442 `11 pp 0001`. -/
theorem test_decode_loads :
    decode [0b01111110#8] = .ok (.ldAAtHl, []) ∧ decode [0b01110101#8] = .ok (.ldAtHlL, []) ∧
      decode [0x36#8, 0x99#8] = .ok (.ldAtHlD8 0x99#8, []) ∧
      decode [0xF0#8, 0x44#8] = .ok (.ldhAAtA8 0x44#8, []) ∧
      decode [0x32#8] = .ok (.ldAtHlDecA, []) ∧
      decode [0x08#8, 0x00#8, 0xC1#8] = .ok (.ldAtA16Sp 0xC100#16, []) ∧
      decode [0b11010001#8] = .ok (.popDe, []) := by decide +kernel

/-- R513 `10 001 rrr`, R523 `0xA6`, R533 `0xFE`, R542 `00 rrr 101`, R553 `0x3F`. -/
theorem test_decode_alu :
    decode [0b10001011#8] = .ok (.adcAE, []) ∧ decode [0xA6#8] = .ok (.andAtHl, []) ∧
      decode [0xFE#8, 0x3C#8] = .ok (.cpD8 0x3C#8, []) ∧ decode [0b00101101#8] = .ok (.decL, []) ∧
      decode [0x3F#8] = .ok (.ccf, []) := by decide +kernel

/-- R602 `00 pp 1011`, R603 `00 pp 1001`, R605 `0xF8`. -/
theorem test_decode_pairs :
    decode [0b00011011#8] = .ok (.decDe, []) ∧ decode [0b00111001#8] = .ok (.addHlSp, []) ∧
      decode [0xF8#8, 0xFE#8] = .ok (.ldHlSpE8 0xFE#8, []) := by decide +kernel

/-- R703 `0x17`, R720 `CB 00 101 rrr`, R723 `CB 36`. -/
theorem test_decode_rotates :
    decode [0x17#8] = .ok (.rla, []) ∧ decode [0xCB#8, 0b00101011#8] = .ok (.sraE, []) ∧
      decode [0xCB#8, 0x36#8] = .ok (.swapAtHl, []) := by decide +kernel

/-- R801 `CB 01 bbb rrr`, R803 `CB 10 bbb rrr`, R806 `CB 11 bbb 110`. -/
theorem test_decode_bits :
    decode [0xCB#8, 0b01011100#8] = .ok (.bit3H, []) ∧
      decode [0xCB#8, 0b10111111#8] = .ok (.res7A, []) ∧
      decode [0xCB#8, 0b11111110#8] = .ok (.set7AtHl, []) := by decide +kernel

/-- R902 `110 cc 010`, R911 `110 cc 100`, R913 `110 cc 000`, R914 `0xD9`, R920 `11 yyy 111`. -/
theorem test_decode_control :
    decode [0b11001010#8, 0x00#8, 0x40#8] = .ok (.jpZA16 0x4000#16, []) ∧
      decode [0b11011100#8, 0x34#8, 0x12#8] = .ok (.callCA16 0x1234#16, []) ∧
      decode [0b11000000#8] = .ok (.retNz, []) ∧ decode [0xD9#8] = .ok (.reti, []) ∧
      decode [0b11111111#8] = .ok (.rst38, []) := by decide +kernel

/-- R1010 `0x76`, R1012 `0x10` and an ignored byte, R1020 `0xF3`, R1021 `0xFB`, R320 `0xD3`. -/
theorem test_decode_system :
    decode [0x76#8] = .ok (.halt, []) ∧ decode [0x10#8, 0x55#8] = .ok (.stop 0x55#8, []) ∧
      decode [0xF3#8] = .ok (.di, []) ∧ decode [0xFB#8] = .ok (.ei, []) ∧
      decode [0xD3#8] = .ok (.illegalD3, []) := by decide +kernel

/-- The words of the opcode table: a CB row is written with the prefix in bits 15:8 (R350), an
operand is 0 where the table gives it no bits. -/
theorem test_table_words :
    decodeTableWord 8 0x21 = some (.ldHlD16 0x0000#16) ∧ decodeTableWord 16 0xCB7E = some .bit7AtHl ∧
      decodeTableWord 8 0xED = some .illegalED := by decide +kernel

/-- A table word placed at the fetch runs at the next step from reset: `CB 3F` on A = 1 (R724). -/
theorem test_placed_word_runs :
    let t := after (State.reset.withFetchWord 16 0xCB3F)
    t.cpu.a = 0x00#8 ∧ t.cpu.f = 0x90#8 ∧ t.mcycles = 2 := by decide +kernel

/-! ## Single steps of 95_test_vectors.md -/

/-- X-3b (R430). -/
theorem test_vector_x3b :
    let t := after
      (placed { Cpu.reset with pc := 0xC000#16 } [0x21#8, 0x21#8, 0x58#8]);
    t.cpu.h = 0x58#8 ∧ t.cpu.l = 0x21#8 ∧ t.cpu.pc = 0xC003#16 ∧ t.mcycles = 3 := by
  decide +kernel

/-- X-4a (R905). -/
theorem test_vector_x4a :
    let t := after
      (placed { Cpu.reset with pc := 0xD000#16, f := 0x00#8 } [0x20#8, 0x04#8]);
    t.cpu.pc = 0xD006#16 ∧ t.mcycles = 3 ∧ t.cpu.f = 0x00#8 := by
  decide +kernel

/-- V-LD-1 (R401). -/
theorem test_vector_ld1 :
    let t := after
      (placed { Cpu.reset with b := 0x12#8, c := 0x34#8, pc := 0xC000#16 } [0x41#8]);
    t.cpu.b = 0x34#8 ∧ t.cpu.pc = 0xC001#16 ∧ t.mcycles = 1 := by
  decide +kernel

/-- V-LD-3 (R402). -/
theorem test_vector_ld3 :
    let t := after
      (placed { Cpu.reset with pc := 0xC000#16 } [0x0E#8, 0xA5#8]);
    t.cpu.c = 0xA5#8 ∧ t.cpu.pc = 0xC002#16 ∧ t.mcycles = 2 := by
  decide +kernel

/-- V-LD-4 (R403). -/
theorem test_vector_ld4 :
    let t := after
      (placed { Cpu.reset with h := 0xFE#8, l := 0xA0#8, pc := 0xC000#16 } [0x7E#8]);
    t.cpu.a = 0xFF#8 ∧ t.cpu.pc = 0xC001#16 ∧ t.mcycles = 2 := by
  decide +kernel

/-- V-LD-5 (R404). -/
theorem test_vector_ld5 :
    let t := after
      (placed { Cpu.reset with h := 0x20#8, l := 0x00#8, a := 0x00#8, pc := 0xC000#16 } [0x77#8]);
    t.cpu.pc = 0xC001#16 ∧ t.bus.romBank = 1#5 ∧ t.mcycles = 2 ∧ t.cpu.a = 0x00#8 := by
  decide +kernel

/-- V-LD-6 (R405). -/
theorem test_vector_ld6 :
    let t := after
      (placed { Cpu.reset with h := 0xFF#8, l := 0x44#8, pc := 0xC000#16 } [0x36#8, 0x99#8]);
    t.cpu.pc = 0xC002#16 ∧ t.mcycles = 3 := by
  decide +kernel

/-- V-LD-7 (R406). -/
theorem test_vector_ld7 :
    let t := after
      (memWrite 0xC123#16 0x5C#8 (placed { Cpu.reset with b := 0xE1#8, c := 0x23#8, pc := 0xC000#16 } [0x0A#8]));
    t.cpu.a = 0x5C#8 ∧ t.cpu.pc = 0xC001#16 ∧ t.mcycles = 2 := by
  decide +kernel

/-- V-LD-8 (R409). -/
theorem test_vector_ld8 :
    let t := after
      (placed { Cpu.reset with d := 0xFF#8, e := 0x0F#8, a := 0xFF#8, pc := 0xC000#16 } [0x12#8]);
    t.cpu.pc = 0xC001#16 ∧ t.io 0x0F = 0x1F#8 ∧ t.mcycles = 2 ∧ t.cpu.a = 0xFF#8 := by
  decide +kernel

/-- V-LD-10 (R411). -/
theorem test_vector_ld10 :
    let t := after
      (placed { Cpu.reset with pc := 0xC000#16 } [0xF0#8, 0x41#8]);
    t.cpu.a = 0x86#8 ∧ t.cpu.pc = 0xC002#16 ∧ t.mcycles = 3 := by
  decide +kernel

/-- V-LD-11 (R412). -/
theorem test_vector_ld11 :
    let t := after
      (placed { Cpu.reset with a := 0x7F#8, pc := 0xC000#16 } [0xE0#8, 0x41#8]);
    t.cpu.pc = 0xC002#16 ∧ t.io 0x41 = 0x78#8 ∧ t.mcycles = 3 ∧ t.cpu.a = 0x7F#8 := by
  decide +kernel

/-- V-LD-13 (R415). -/
theorem test_vector_ld13 :
    let t := after
      (placed { Cpu.reset with a := 0x0A#8, pc := 0xC000#16 } [0xEA#8, 0x00#8, 0x00#8]);
    t.cpu.pc = 0xC003#16 ∧ t.bus.ramEnable = true ∧ t.mcycles = 4 ∧ t.cpu.a = 0x0A#8 := by
  decide +kernel

/-- V-LD-14 (R418). -/
theorem test_vector_ld14 :
    let t := after
      { (placed { Cpu.reset with h := 0xFF#8, l := 0xFF#8, pc := 0xC000#16 } [0x2A#8]) with bus := { (placed { Cpu.reset with h := 0xFF#8, l := 0xFF#8, pc := 0xC000#16 } [0x2A#8]).bus with ie := 0x1F#8 } };
    t.cpu.a = 0x1F#8 ∧ t.cpu.h = 0x00#8 ∧ t.cpu.l = 0x00#8 ∧ t.cpu.pc = 0xC001#16 ∧
      t.mcycles = 2 := by
  decide +kernel

/-- V-LD-16 (R417). -/
theorem test_vector_ld16 :
    let t := after
      (placed { Cpu.reset with h := 0xC0#8, l := 0x00#8, a := 0x33#8, pc := 0xC000#16 } [0x32#8]);
    t.cpu.h = 0xBF#8 ∧ t.cpu.l = 0xFF#8 ∧ t.cpu.pc = 0xC001#16 ∧ memRead t 0xC000#16 = 0x33#8 ∧
      t.mcycles = 2 ∧ t.cpu.a = 0x33#8 := by
  decide +kernel

/-- V-LD-19 (R432). -/
theorem test_vector_ld19 :
    let t := after
      (placed { Cpu.reset with sp := 0xABCD#16, pc := 0xC000#16 } [0x08#8, 0xFF#8, 0xFF#8]);
    t.cpu.pc = 0xC003#16 ∧ t.bus.ie = 0xCD#8 ∧ t.mcycles = 5 := by
  decide +kernel

/-- V-LD-20 (R440). -/
theorem test_vector_ld20 :
    let t := after
      (placed { Cpu.reset with sp := 0xFFFE#16, f := 0xB0#8, a := 0x01#8, pc := 0xC000#16 } [0xF5#8]);
    t.cpu.sp = 0xFFFC#16 ∧ t.cpu.pc = 0xC001#16 ∧ memRead t 0xFFFC#16 = 0xB0#8 ∧
      memRead t 0xFFFD#16 = 0x01#8 ∧ t.mcycles = 4 ∧ t.cpu.a = 0x01#8 ∧ t.cpu.f = 0xB0#8 := by
  decide +kernel

/-- V-LD-21 (R441). -/
theorem test_vector_ld21 :
    let t := after
      (memWrite 0xC001#16 0x00#8 (memWrite 0xC000#16 0x0F#8 (placed { Cpu.reset with pc := 0xC100#16, sp := 0xC000#16 } [0xF1#8])));
    t.cpu.a = 0x00#8 ∧ t.cpu.f = 0x00#8 ∧ t.cpu.sp = 0xC002#16 ∧ t.cpu.pc = 0xC101#16 ∧
      t.mcycles = 3 := by
  decide +kernel

/-- V-LD-22 (R440). -/
theorem test_vector_ld22 :
    let t := after
      (placed { Cpu.reset with sp := 0x0001#16, b := 0x0A#8, c := 0x1F#8, pc := 0xC000#16 } [0xC5#8]);
    t.cpu.sp = 0xFFFF#16 ∧ t.cpu.pc = 0xC001#16 ∧ t.bus.ramEnable = true ∧ t.bus.ie = 0x1F#8 ∧
      t.mcycles = 4 := by
  decide +kernel

/-- V-LD-23 (R442). -/
theorem test_vector_ld23 :
    let t := after
      { (memWrite 0xFFFE#16 0x34#8 (placed { Cpu.reset with sp := 0xFFFE#16, pc := 0xC000#16 } [0xE1#8])) with bus := { (memWrite 0xFFFE#16 0x34#8 (placed { Cpu.reset with sp := 0xFFFE#16, pc := 0xC000#16 } [0xE1#8])).bus with ie := 0x12#8 } };
    t.cpu.h = 0x12#8 ∧ t.cpu.l = 0x34#8 ∧ t.cpu.sp = 0x0000#16 ∧ t.cpu.pc = 0xC001#16 ∧
      t.mcycles = 3 := by
  decide +kernel

/-- V-ALU-1 (R510). -/
theorem test_vector_alu1 :
    let t := after
      (placed { Cpu.reset with a := 0xFF#8, b := 0x01#8, pc := 0xC000#16 } [0x80#8]);
    t.cpu.a = 0x00#8 ∧ t.cpu.pc = 0xC001#16 ∧ t.mcycles = 1 := by
  decide +kernel

/-- V-ALU-3 (R513). -/
theorem test_vector_alu3 :
    let t := after
      (placed { Cpu.reset with a := 0x0F#8, b := 0x00#8, f := 0x10#8, pc := 0xC000#16 } [0x88#8]);
    t.cpu.a = 0x10#8 ∧ t.cpu.f = 0x20#8 ∧ t.cpu.pc = 0xC001#16 ∧ t.mcycles = 1 := by
  decide +kernel

/-- V-ALU-4 (R515). -/
theorem test_vector_alu4 :
    let t := after
      (placed { Cpu.reset with a := 0xFF#8, f := 0x10#8, pc := 0xC000#16 } [0xCE#8, 0x00#8]);
    t.cpu.a = 0x00#8 ∧ t.cpu.f = 0xB0#8 ∧ t.cpu.pc = 0xC002#16 ∧ t.mcycles = 2 := by
  decide +kernel

/-- V-ALU-7 (R519). -/
theorem test_vector_alu7 :
    let t := after
      (placed { Cpu.reset with a := 0x10#8, b := 0x00#8, f := 0x10#8, pc := 0xC000#16 } [0x98#8]);
    t.cpu.a = 0x0F#8 ∧ t.cpu.f = 0x60#8 ∧ t.cpu.pc = 0xC001#16 ∧ t.mcycles = 1 := by
  decide +kernel

/-- V-ALU-10 (R527). -/
theorem test_vector_alu10 :
    let t := after
      (placed { Cpu.reset with a := 0x55#8, f := 0xF0#8, pc := 0xC000#16 } [0xEE#8, 0xAA#8]);
    t.cpu.a = 0xFF#8 ∧ t.cpu.f = 0x00#8 ∧ t.cpu.pc = 0xC002#16 ∧ t.mcycles = 2 := by
  decide +kernel

/-- V-ALU-11 (R528). -/
theorem test_vector_alu11 :
    let t := after
      (placed { Cpu.reset with a := 0x00#8, b := 0x00#8, f := 0x70#8, pc := 0xC000#16 } [0xB0#8]);
    t.cpu.f = 0x80#8 ∧ t.cpu.pc = 0xC001#16 ∧ t.mcycles = 1 ∧ t.cpu.a = 0x00#8 := by
  decide +kernel

/-- V-ALU-13 (R532). -/
theorem test_vector_alu13 :
    let t := after
      (memWrite 0xC100#16 0x42#8 (placed { Cpu.reset with a := 0x42#8, h := 0xC1#8, l := 0x00#8, pc := 0xC000#16 } [0xBE#8]));
    t.cpu.f = 0xC0#8 ∧ t.cpu.pc = 0xC001#16 ∧ t.mcycles = 2 ∧ t.cpu.a = 0x42#8 := by
  decide +kernel

/-- V-ALU-15 (R542). -/
theorem test_vector_alu15 :
    let t := after
      (placed { Cpu.reset with b := 0x10#8, f := 0x00#8, pc := 0xC000#16 } [0x05#8]);
    t.cpu.f = 0x60#8 ∧ t.cpu.b = 0x0F#8 ∧ t.cpu.pc = 0xC001#16 ∧ t.mcycles = 1 := by
  decide +kernel

/-- V-ALU-17 (R541). -/
theorem test_vector_alu17 :
    let t := after
      (memWrite 0xC100#16 0xFF#8 (placed { Cpu.reset with h := 0xC1#8, l := 0x00#8, f := 0x00#8, pc := 0xC000#16 } [0x34#8]));
    t.cpu.f = 0xA0#8 ∧ t.cpu.pc = 0xC001#16 ∧ memRead t 0xC100#16 = 0x00#8 ∧ t.mcycles = 3 := by
  decide +kernel

/-- V-ALU-18 (R543). -/
theorem test_vector_alu18 :
    let t := after
      (memWrite 0xC100#16 0x01#8 (placed { Cpu.reset with h := 0xC1#8, l := 0x00#8, f := 0x10#8, pc := 0xC000#16 } [0x35#8]));
    t.cpu.f = 0xD0#8 ∧ t.cpu.pc = 0xC001#16 ∧ memRead t 0xC100#16 = 0x00#8 ∧ t.mcycles = 3 := by
  decide +kernel

/-- V-ALU-19 (R550). -/
theorem test_vector_alu19 :
    let t := after
      (placed { Cpu.reset with a := 0x9A#8, f := 0x00#8, pc := 0xC000#16 } [0x27#8]);
    t.cpu.a = 0x00#8 ∧ t.cpu.f = 0x90#8 ∧ t.cpu.pc = 0xC001#16 ∧ t.mcycles = 1 := by
  decide +kernel

/-- V-ALU-21 (R550). -/
theorem test_vector_alu21 :
    let t := after
      (placed { Cpu.reset with a := 0x2D#8, f := 0x60#8, pc := 0xC000#16 } [0x27#8]);
    t.cpu.a = 0x27#8 ∧ t.cpu.f = 0x40#8 ∧ t.cpu.pc = 0xC001#16 ∧ t.mcycles = 1 := by
  decide +kernel

/-- V-ALU-23 (R551). -/
theorem test_vector_alu23 :
    let t := after
      (placed { Cpu.reset with a := 0x00#8, f := 0x90#8, pc := 0xC000#16 } [0x2F#8]);
    t.cpu.a = 0xFF#8 ∧ t.cpu.f = 0xF0#8 ∧ t.cpu.pc = 0xC001#16 ∧ t.mcycles = 1 := by
  decide +kernel

/-- V-ALU-24 (R552). -/
theorem test_vector_alu24 :
    let t := after
      (placed { Cpu.reset with f := 0x60#8, pc := 0xC000#16 } [0x37#8]);
    t.cpu.f = 0x10#8 ∧ t.cpu.pc = 0xC001#16 ∧ t.mcycles = 1 := by
  decide +kernel

/-- V-ALU-25 (R553). -/
theorem test_vector_alu25 :
    let t := after
      (placed { Cpu.reset with f := 0x70#8, pc := 0xC000#16 } [0x3F#8]);
    t.cpu.f = 0x00#8 ∧ t.cpu.pc = 0xC001#16 ∧ t.mcycles = 1 := by
  decide +kernel

/-- V-A16-1 (R601). -/
theorem test_vector_a161 :
    let t := after
      (placed { Cpu.reset with sp := 0xFFFF#16, f := 0xB0#8, pc := 0xC000#16 } [0x33#8]);
    t.cpu.sp = 0x0000#16 ∧ t.cpu.pc = 0xC001#16 ∧ t.mcycles = 2 ∧ t.cpu.f = 0xB0#8 := by
  decide +kernel

/-- V-A16-2 (R602). -/
theorem test_vector_a162 :
    let t := after
      (placed { Cpu.reset with h := 0x00#8, l := 0x00#8, pc := 0xC000#16 } [0x2B#8]);
    t.cpu.h = 0xFF#8 ∧ t.cpu.l = 0xFF#8 ∧ t.cpu.pc = 0xC001#16 ∧ t.mcycles = 2 := by
  decide +kernel

/-- V-A16-3 (R603). -/
theorem test_vector_a163 :
    let t := after
      (placed { Cpu.reset with h := 0xFF#8, l := 0xFF#8, d := 0x00#8, e := 0x01#8, f := 0x80#8, pc := 0xC000#16 } [0x19#8]);
    t.cpu.f = 0xB0#8 ∧ t.cpu.h = 0x00#8 ∧ t.cpu.l = 0x00#8 ∧ t.cpu.pc = 0xC001#16 ∧
      t.mcycles = 2 := by
  decide +kernel

/-- V-A16-6 (R604). -/
theorem test_vector_a166 :
    let t := after
      (placed { Cpu.reset with sp := 0x0001#16, f := 0x80#8, pc := 0xC000#16 } [0xE8#8, 0xFF#8]);
    t.cpu.f = 0x30#8 ∧ t.cpu.sp = 0x0000#16 ∧ t.cpu.pc = 0xC002#16 ∧ t.mcycles = 4 := by
  decide +kernel

/-- V-A16-9 (R605). -/
theorem test_vector_a169 :
    let t := after
      (placed { Cpu.reset with sp := 0xFFFF#16, f := 0x00#8, pc := 0xC000#16 } [0xF8#8, 0x01#8]);
    t.cpu.f = 0x30#8 ∧ t.cpu.h = 0x00#8 ∧ t.cpu.l = 0x00#8 ∧ t.cpu.pc = 0xC002#16 ∧
      t.mcycles = 3 := by
  decide +kernel

/-- V-ROT-1 (R701). -/
theorem test_vector_rot1 :
    let t := after
      (placed { Cpu.reset with a := 0x00#8, f := 0x80#8, pc := 0xC000#16 } [0x07#8]);
    t.cpu.f = 0x00#8 ∧ t.cpu.pc = 0xC001#16 ∧ t.mcycles = 1 ∧ t.cpu.a = 0x00#8 := by
  decide +kernel

/-- V-ROT-3 (R704). -/
theorem test_vector_rot3 :
    let t := after
      (placed { Cpu.reset with a := 0x01#8, f := 0x10#8, pc := 0xC000#16 } [0x1F#8]);
    t.cpu.a = 0x80#8 ∧ t.cpu.pc = 0xC001#16 ∧ t.mcycles = 1 ∧ t.cpu.f = 0x10#8 := by
  decide +kernel

/-- V-ROT-4 (R702). -/
theorem test_vector_rot4 :
    let t := after
      (placed { Cpu.reset with a := 0x01#8, f := 0x00#8, pc := 0xC000#16 } [0x0F#8]);
    t.cpu.a = 0x80#8 ∧ t.cpu.f = 0x10#8 ∧ t.cpu.pc = 0xC001#16 ∧ t.mcycles = 1 := by
  decide +kernel

/-- V-ROT-6 (R714). -/
theorem test_vector_rot6 :
    let t := after
      (placed { Cpu.reset with b := 0x80#8, f := 0x00#8, pc := 0xC000#16 } [0xCB#8, 0x10#8]);
    t.cpu.f = 0x90#8 ∧ t.cpu.b = 0x00#8 ∧ t.cpu.pc = 0xC002#16 ∧ t.mcycles = 2 := by
  decide +kernel

/-- V-ROT-7 (R717). -/
theorem test_vector_rot7 :
    let t := after
      (memWrite 0xC100#16 0x01#8 (placed { Cpu.reset with h := 0xC1#8, l := 0x00#8, f := 0x10#8, pc := 0xC000#16 } [0xCB#8, 0x1E#8]));
    t.cpu.pc = 0xC002#16 ∧ memRead t 0xC100#16 = 0x80#8 ∧ t.mcycles = 4 ∧ t.cpu.f = 0x10#8 := by
  decide +kernel

/-- V-ROT-8 (R720). -/
theorem test_vector_rot8 :
    let t := after
      (placed { Cpu.reset with e := 0x80#8, f := 0x00#8, pc := 0xC000#16 } [0xCB#8, 0x2B#8]);
    t.cpu.e = 0xC0#8 ∧ t.cpu.pc = 0xC002#16 ∧ t.mcycles = 2 ∧ t.cpu.f = 0x00#8 := by
  decide +kernel

/-- V-ROT-9 (R722). -/
theorem test_vector_rot9 :
    let t := after
      (placed { Cpu.reset with h := 0x00#8, f := 0x10#8, pc := 0xC000#16 } [0xCB#8, 0x34#8]);
    t.cpu.f = 0x80#8 ∧ t.cpu.pc = 0xC002#16 ∧ t.mcycles = 2 := by
  decide +kernel

/-- V-ROT-10 (R723). -/
theorem test_vector_rot10 :
    let t := after
      (memWrite 0xC100#16 0xA5#8 (placed { Cpu.reset with h := 0xC1#8, l := 0x00#8, pc := 0xC000#16 } [0xCB#8, 0x36#8]));
    t.cpu.f = 0x00#8 ∧ t.cpu.pc = 0xC002#16 ∧ memRead t 0xC100#16 = 0x5A#8 ∧ t.mcycles = 4 := by
  decide +kernel

/-- V-ROT-11 (R724). -/
theorem test_vector_rot11 :
    let t := after
      (placed { Cpu.reset with a := 0x01#8, f := 0x00#8, pc := 0xC000#16 } [0xCB#8, 0x3F#8]);
    t.cpu.a = 0x00#8 ∧ t.cpu.f = 0x90#8 ∧ t.cpu.pc = 0xC002#16 ∧ t.mcycles = 2 := by
  decide +kernel

/-- V-BIT-1 (R801). -/
theorem test_vector_bit1 :
    let t := after
      (placed { Cpu.reset with h := 0x08#8, f := 0x50#8, pc := 0xC000#16 } [0xCB#8, 0x5C#8]);
    t.cpu.f = 0x30#8 ∧ t.cpu.pc = 0xC002#16 ∧ t.mcycles = 2 := by
  decide +kernel

/-- V-BIT-3 (R802). -/
theorem test_vector_bit3 :
    let t := after
      (memWrite 0xC100#16 0x7F#8 (placed { Cpu.reset with h := 0xC1#8, l := 0x00#8, f := 0x10#8, pc := 0xC000#16 } [0xCB#8, 0x7E#8]));
    t.cpu.f = 0xB0#8 ∧ t.cpu.pc = 0xC002#16 ∧ t.mcycles = 3 := by
  decide +kernel

/-- V-BIT-4 (R803). -/
theorem test_vector_bit4 :
    let t := after
      (placed { Cpu.reset with a := 0x01#8, pc := 0xC000#16 } [0xCB#8, 0x87#8]);
    t.cpu.a = 0x00#8 ∧ t.cpu.pc = 0xC002#16 ∧ t.mcycles = 2 := by
  decide +kernel

/-- V-BIT-5 (R806). -/
theorem test_vector_bit5 :
    let t := after
      (memWrite 0xC100#16 0x80#8 (placed { Cpu.reset with h := 0xC1#8, l := 0x00#8, pc := 0xC000#16 } [0xCB#8, 0xFE#8]));
    t.cpu.pc = 0xC002#16 ∧ memRead t 0xC100#16 = 0x80#8 ∧ t.mcycles = 4 := by
  decide +kernel

/-- V-CTL-3 (R905). -/
theorem test_vector_ctl3 :
    let t := after
      (placed { Cpu.reset with f := 0x10#8, pc := 0xC000#16 } [0x38#8, 0x80#8]);
    t.cpu.pc = 0xBF82#16 ∧ t.mcycles = 3 ∧ t.cpu.f = 0x10#8 := by
  decide +kernel

/-- V-CTL-5 (R902). -/
theorem test_vector_ctl5 :
    let t := after
      (placed { Cpu.reset with f := 0x00#8, pc := 0xC000#16 } [0xCA#8, 0x00#8, 0x40#8]);
    t.cpu.pc = 0xC003#16 ∧ t.mcycles = 3 ∧ t.cpu.f = 0x00#8 := by
  decide +kernel

/-- V-CTL-7 (R911). -/
theorem test_vector_ctl7 :
    let t := after
      (placed { Cpu.reset with f := 0x80#8, sp := 0xD000#16, pc := 0xC000#16 } [0xCC#8, 0x00#8, 0x30#8]);
    t.cpu.sp = 0xCFFE#16 ∧ t.cpu.pc = 0x3000#16 ∧ memRead t 0xCFFE#16 = 0x03#8 ∧
      memRead t 0xCFFF#16 = 0xC0#8 ∧ t.mcycles = 6 ∧ t.cpu.f = 0x80#8 := by
  decide +kernel

/-- V-CTL-8 (R913). -/
theorem test_vector_ctl8 :
    let t := after
      (memWrite 0xD001#16 0x12#8 (memWrite 0xD000#16 0x34#8 (placed { Cpu.reset with f := 0x00#8, sp := 0xD000#16, pc := 0xC000#16 } [0xC0#8])));
    t.cpu.sp = 0xD002#16 ∧ t.cpu.pc = 0x1234#16 ∧ t.mcycles = 5 ∧ t.cpu.f = 0x00#8 := by
  decide +kernel

/-- V-CTL-9 (R914). -/
theorem test_vector_ctl9 :
    let t := after
      (memWrite 0xD001#16 0x02#8 (memWrite 0xD000#16 0x00#8 (placed { Cpu.reset with sp := 0xD000#16, ime := false, eiDelay := false, pc := 0xC000#16 } [0xD9#8])));
    t.cpu.sp = 0xD002#16 ∧ t.cpu.pc = 0x0200#16 ∧ t.cpu.ime = true ∧ t.mcycles = 4 := by
  decide +kernel

/-- V-CTL-10 (R920). -/
theorem test_vector_ctl10 :
    let t := after
      (placed { Cpu.reset with sp := 0xFFFE#16, pc := 0xC000#16 } [0xC7#8]);
    t.cpu.sp = 0xFFFC#16 ∧ t.cpu.pc = 0x0000#16 ∧ memRead t 0xFFFC#16 = 0x01#8 ∧
      memRead t 0xFFFD#16 = 0xC0#8 ∧ t.mcycles = 4 := by
  decide +kernel

/-- V-CTL-11 (R910). -/
theorem test_vector_ctl11 :
    let t := after
      (placed { Cpu.reset with sp := 0x0000#16, pc := 0xC000#16 } [0xCD#8, 0x00#8, 0xC2#8]);
    t.cpu.sp = 0xFFFE#16 ∧ t.cpu.pc = 0xC200#16 ∧ t.bus.ie = 0xC0#8 ∧
      memRead t 0xFFFE#16 = 0x03#8 ∧ t.mcycles = 6 := by
  decide +kernel

/-- V-SYS-2 (R1020). -/
theorem test_vector_sys2 :
    let t := after
      (placed { Cpu.reset with ime := true, pc := 0xC000#16 } [0xF3#8]);
    t.cpu.pc = 0xC001#16 ∧ t.cpu.ime = false ∧ t.mcycles = 1 := by
  decide +kernel

/-- V-SYS-5 (R1010). -/
theorem test_vector_sys5 :
    let t := after
      { ((placed { Cpu.reset with ime := false, pc := 0xC000#16 } [0x76#8]).setIo 0x0F 0x00#8) with bus := { ((placed { Cpu.reset with ime := false, pc := 0xC000#16 } [0x76#8]).setIo 0x0F 0x00#8).bus with ie := 0x01#8 } };
    t.cpu.pc = 0xC001#16 ∧ t.cpu.halted = true ∧ t.mcycles = 1 := by
  decide +kernel

/-- V-SYS-6 (R1010). -/
theorem test_vector_sys6 :
    let t := after
      { ((placed { Cpu.reset with halted := true, ime := false, pc := 0xC000#16 } [0x00#8]).setIo 0x0F 0x01#8) with bus := { ((placed { Cpu.reset with halted := true, ime := false, pc := 0xC000#16 } [0x00#8]).setIo 0x0F 0x01#8).bus with ie := 0x01#8 } };
    t.cpu.pc = 0xC001#16 ∧ t.cpu.halted = false ∧ t.mcycles = 1 := by
  decide +kernel

/-- V-SYS-9 (R1012). -/
theorem test_vector_sys9 :
    let t := after
      (placed { Cpu.reset with pc := 0xC000#16 } [0x10#8, 0x00#8]);
    t.cpu.pc = 0xC002#16 ∧ t.cpu.stopped = true ∧ t.mcycles = 1 := by
  decide +kernel

/-- V-SYS-11 (R1030). -/
theorem test_vector_sys11 :
    let t := after
      (placed { Cpu.reset with pc := 0xC000#16 } [0xDD#8]);
    t.cpu.pc = 0xC001#16 ∧ t.faultLog = [⟨0xC000#16, 0x00DD#16⟩] ∧ t.mcycles = 0 := by
  decide +kernel

/-- V-INT-1 (R1120). -/
theorem test_vector_int1 :
    let t := after
      { ((placed { Cpu.reset with ime := true, sp := 0xFFFE#16, pc := 0xC000#16 } [0x00#8]).setIo 0x0F 0x05#8) with bus := { ((placed { Cpu.reset with ime := true, sp := 0xFFFE#16, pc := 0xC000#16 } [0x00#8]).setIo 0x0F 0x05#8).bus with ie := 0x05#8 } };
    t.cpu.sp = 0xFFFC#16 ∧ t.cpu.pc = 0x0040#16 ∧ t.cpu.ime = false ∧
      memRead t 0xFFFC#16 = 0x00#8 ∧ memRead t 0xFFFD#16 = 0xC0#8 ∧ t.io 0x0F = 0x04#8 ∧
      t.mcycles = 5 := by
  decide +kernel

/-- V-INT-5 (R1120). -/
theorem test_vector_int5 :
    let t := after
      { ((placed { Cpu.reset with halted := true, ime := true, pc := 0xC000#16 } [0x00#8]).setIo 0x0F 0x02#8) with bus := { ((placed { Cpu.reset with halted := true, ime := true, pc := 0xC000#16 } [0x00#8]).setIo 0x0F 0x02#8).bus with ie := 0x02#8 } };
    t.cpu.sp = 0xFFFC#16 ∧ t.cpu.pc = 0x0048#16 ∧ t.cpu.ime = false ∧ t.cpu.halted = false ∧
      memRead t 0xFFFC#16 = 0x00#8 ∧ memRead t 0xFFFD#16 = 0xC0#8 ∧ t.io 0x0F = 0x00#8 ∧
      t.mcycles = 5 := by
  decide +kernel

/-- V-INT-6 (R1120). -/
theorem test_vector_int6 :
    let t := after
      { ((placed { Cpu.reset with ime := true, eiDelay := true, pc := 0xC000#16 } [0x00#8]).setIo 0x0F 0x01#8) with bus := { ((placed { Cpu.reset with ime := true, eiDelay := true, pc := 0xC000#16 } [0x00#8]).setIo 0x0F 0x01#8).bus with ie := 0x01#8 } };
    t.cpu.sp = 0xFFFC#16 ∧ t.cpu.pc = 0x0040#16 ∧ t.cpu.ime = false ∧ t.cpu.eiDelay = false ∧
      memRead t 0xFFFC#16 = 0x00#8 ∧ memRead t 0xFFFD#16 = 0xC0#8 ∧ t.io 0x0F = 0x00#8 ∧
      t.mcycles = 5 := by
  decide +kernel

/-- V-INT-7 (R1107). -/
theorem test_vector_int7 :
    let t := after
      { { ((placed { Cpu.reset with ime := true, pc := 0xC000#16 } [0x00#8]).setIo 0x0F 0x01#8) with bus := { ((placed { Cpu.reset with ime := true, pc := 0xC000#16 } [0x00#8]).setIo 0x0F 0x01#8).bus with ie := 0x01#8 } } with cfg := { Config.default with irqDispatch := false } };
    t.cpu.pc = 0xC001#16 ∧ t.mcycles = 1 := by
  decide +kernel

/-- V-MEM-1 (R242). -/
theorem test_vector_mem1 :
    let t := after
      { (placed { Cpu.reset with a := 0x00#8, pc := 0xC000#16 } [0xEA#8, 0x00#8, 0x20#8]) with bus := { (placed { Cpu.reset with a := 0x00#8, pc := 0xC000#16 } [0xEA#8, 0x00#8, 0x20#8]).bus with romBank := 3#5 } };
    t.cpu.pc = 0xC003#16 ∧ t.bus.romBank = 1#5 ∧ t.mcycles = 4 ∧ t.cpu.a = 0x00#8 := by
  decide +kernel

/-- V-MEM-5 (R244). -/
theorem test_vector_mem5 :
    let t := after
      (placed { Cpu.reset with a := 0x01#8, pc := 0xC000#16 } [0xEA#8, 0x00#8, 0x60#8]);
    t.cpu.pc = 0xC003#16 ∧ t.mcycles = 4 ∧ t.cpu.a = 0x01#8 := by
  decide +kernel

/-! ## Picture vectors of 95_test_vectors.md -/

/-- V-PPU-12 (R1161, R1162): entering line 144 with the VBlank select bit set requests bits 0 and 1. -/
theorem test_vblank_entry :
    let s := picture 0x91#8 0x10#8
    let t := ppuTick 1 { s with ppu := { s.ppu with ly := 143, dot := 455, mode := .hBlank } }
    t.ppu.ly = 144 ∧ t.ppu.dot = 0 ∧ t.ppu.mode = .vBlank ∧ t.ppu.statLine = true ∧
      t.io 0x0F = 0x03#8 := by decide +kernel

/-- V-PPU-4 (R1150): a tick over two line boundaries ends at line 2, dot 88. -/
theorem test_two_lines :
    let t := ppuTick 1000 (picture 0x91#8 0x00#8)
    t.ppu.ly = 2 ∧ t.ppu.dot = 88 ∧ t.ppu.mode = .drawing := by decide +kernel

/-- V-REN-1 (R1181, R1182, R1183): tile 1 row 0 is `F0 CC`. -/
theorem test_background_row :
    let s := writeFrom 0xFF42#16 [0xFF#8] (writeFrom 0xFF47#16 [0xE4#8]
      (writeFrom 0x8010#16 [0xF0#8, 0xCC#8] (writeFrom 0x9800#16 [0x01#8] State.reset)))
    [0, 1, 2, 3, 4, 5, 6, 7, 8].map (bgColour s · 1) =
      [3#2, 3#2, 1#2, 1#2, 2#2, 2#2, 0#2, 0#2, 0#2] := by decide +kernel

/-- The start of V-REN-4: background of colour 1, sprite 0 at (0, 1) with tile 3, its row `80 80`. -/
def oneSprite (attr : Byte) : State :=
  writeFrom 0x8030#16 [0x80#8, 0x80#8] (writeFrom 0xFE00#16 [17#8, 8#8, 3#8, attr]
    (writeFrom 0x8002#16 [0xFF#8] (writeFrom 0xFF47#16 [0xE4#8, 0xE4#8]
      (writeFrom 0xFF40#16 [0x93#8] State.reset))))

/-- V-REN-4 (R1200): pixel 0 of row 1 is the sprite's black, pixel 1 the background's light. -/
theorem test_sprite_row :
    let row := linePixels (oneSprite 0x00#8) 1
    row.getD 0 0#32 = 0x000000FF#32 ∧ row.getD 1 0#32 = 0xAAAAAAFF#32 := by decide +kernel

/-- V-REN-5 (R1200): with X flip the sprite's pixel is at x = 7. -/
theorem test_sprite_flip :
    let row := linePixels (oneSprite 0x20#8) 1
    row.getD 0 0#32 = 0xAAAAAAFF#32 ∧ row.getD 7 0#32 = 0x000000FF#32 := by decide +kernel

/-! ## Witnesses: for each statement with hypotheses, a state and operands that meet them -/

theorem witness_EncodeDecode : decode [0x3E#8, 0x05#8, 0x76#8] = .ok (.ldAD8 0x05#8, [0x76#8]) := by
  decide +kernel

theorem witness_ResetState :
    Config.default.bootRom = none ∧
      (Config.defaultWithBoot (Vector.replicate 256 0x00#8)).bootRom ≠ none ∧
      (let c := { Config.default with ramInit := [(0x8000, 1#8), (0xFFFE, 2#8)] };
        (c.ramInit.map Prod.fst).Nodup ∧ (0xFFFE, 2#8) ∈ c.ramInit ∧ isRam 0x8000 = true ∧
          isRam 0xFFFE = true) := by
  refine ⟨rfl, by simp [Config.defaultWithBoot], ?_⟩
  decide

theorem witness_InvStep : ∃ t, Inv (picture 0x91#8 0x00#8) ∧ step (picture 0x91#8 0x00#8) = .next t := by
  obtain ⟨t, ht, -⟩ := cpuStep_kept (picture 0x91#8 0x00#8)
  exact ⟨_, inv_picture _ _, step_of_cpuStep ht⟩

/-- What `StepRunsDecoded` and `EiDelay` assume, for the instruction at pc. -/
def Runs (s : State) (i : Instr) : Prop :=
  s.cpu.faulted = false ∧ s.cpu.stopped = false ∧ s.cpu.halted = false ∧ s.cpu.haltBug = false ∧
    (s.cfg.irqDispatch = false ∨ s.cpu.ime = false ∨
      memRead s 0xFFFF#16 &&& memRead s 0xFF0F#16 &&& 0x1F#8 = 0x00#8) ∧
    (decode [memRead s s.cpu.pc, memRead s (s.cpu.pc + 1#16), memRead s (s.cpu.pc + 2#16)]).toOption.map
      Prod.fst = some i ∧
    s.cfg.implements i.opcode = true

theorem witness_StepRunsDecoded :
    Runs (ready false false false false false 0x1F#8 0x1F#8 [0xCB#8, 0x3F#8]) .srlA ∧
      Runs (ready true true false false false 0x01#8 0x1E#8 [0x21#8, 0x34#8, 0x12#8])
        (.ldHlD16 0x1234#16) := by
  unfold Runs
  decide +kernel

theorem witness_HaltBugFetch :
    let s := ready false false false false true 0x04#8 0x04#8 [0x3C#8, 0x00#8]
    s.cpu.faulted = false ∧ s.cpu.stopped = false ∧ s.cpu.halted = false ∧ s.cpu.haltBug = true ∧
      s.cpu.ime = false ∧
      decode [memRead s s.cpu.pc, memRead s s.cpu.pc, memRead s (s.cpu.pc + 1#16)] =
        .ok (.incA, [0x3C#8, 0x00#8]) ∧
      s.cfg.implements Instr.incA.opcode = true := by decide +kernel

theorem witness_UnknownOpcode :
    (let s := code [0xD3#8];
      s.cpu.faulted = false ∧ s.cpu.stopped = false ∧ s.cpu.halted = false ∧ s.cpu.ime = false ∧
        memRead s s.cpu.pc ∈ [0xD3#8, 0xDB#8, 0xDD#8, 0xE3#8, 0xE4#8, 0xEB#8, 0xEC#8, 0xED#8,
          0xF4#8, 0xFC#8, 0xFD#8]) ∧
      (let s := { code [0x3C#8] with cfg := { Config.default with omitted := [0x003C#16] } };
        s.cpu.ime = false ∧ memRead s s.cpu.pc ≠ 0xCB#8 ∧
          0x00#8 ++ memRead s s.cpu.pc ∈ s.cfg.omitted) ∧
      (let s := { code [0xCB#8, 0x37#8] with cfg := { Config.default with omitted := [0xCB37#16] } };
        s.cpu.ime = false ∧ memRead s s.cpu.pc = 0xCB#8 ∧
          0xCB#8 ++ memRead s (s.cpu.pc + 1#16) ∈ s.cfg.omitted) := by decide +kernel

theorem witness_WaitingSteps :
    ({ code [] with cpu := { Cpu.reset with faulted := true } }).cpu.faulted = true ∧
      (let s := ready false false false true false 0x00#8 0x0F#8 [];
        s.cpu.faulted = false ∧ s.cpu.stopped = true ∧ (memRead s 0xFF0F#16).getLsbD 4 = false) ∧
      (let s := ready false false true false false 0x10#8 0x0F#8 [];
        s.cpu.stopped = false ∧ s.cpu.halted = true ∧
          memRead s 0xFFFF#16 &&& memRead s 0xFF0F#16 &&& 0x1F#8 = 0x00#8) ∧
      (let s := ready false false false true false 0x00#8 0x10#8 [];
        s.cpu.stopped = true ∧ (memRead s 0xFF0F#16).getLsbD 4 = true) ∧
      (let s := ready false false true false false 0x10#8 0x10#8 [];
        s.cpu.stopped = false ∧ s.cpu.halted = true ∧
          memRead s 0xFFFF#16 &&& memRead s 0xFF0F#16 &&& 0x1F#8 ≠ 0x00#8) := by decide +kernel

/-- What `InterruptTaken` assumes, for source `k`. -/
def Interrupts (s : State) (k : Nat) : Prop :=
  s.cpu.faulted = false ∧ s.cpu.stopped = false ∧ s.cpu.halted = false ∧
    s.cfg.irqDispatch = true ∧ s.cpu.ime = true ∧ k < 5 ∧
    (memRead s 0xFFFF#16).getLsbD k = true ∧ (memRead s 0xFF0F#16).getLsbD k = true ∧
    ∀ j < k, (memRead s 0xFFFF#16).getLsbD j = false ∨ (memRead s 0xFF0F#16).getLsbD j = false

theorem witness_InterruptTaken :
    Interrupts (ready true false false false false 0x1F#8 0x1F#8 []) 0 ∧
      (let s := ready true true false false true 0x1C#8 0x13#8 [];
        Interrupts s 4 ∧ BusOk s.cfg s.bus) := by
  have h : Interrupts (ready true false false false false 0x1F#8 0x1F#8 []) 0 ∧
      Interrupts (ready true true false false true 0x1C#8 0x13#8 []) 4 := by
    unfold Interrupts
    decide +kernel
  exact ⟨h.1, h.2, busOk_ready _ _ _ _ _ _ _ _⟩

theorem witness_EiDelay :
    Runs (ready false true false false false 0x00#8 0x00#8 [0x00#8]) .nop ∧
      Runs (ready false true false false false 0x00#8 0x00#8 [0xF3#8]) .di ∧
      Runs (ready false true false false false 0x00#8 0x00#8 [0xD9#8]) .reti ∧
      Runs (ready false false false false false 0x00#8 0x00#8 [0xFB#8]) .ei := by
  unfold Runs
  decide +kernel

theorem witness_EveryStepCompletes :
    (∃ t, cpuStep (code [0xC9#8]) = .next t) ∧
      ({ code [] with cpu := { Cpu.reset with faulted := true } }).cpu.faulted = true := by
  obtain ⟨t, ht, -⟩ := cpuStep_kept (code [0xC9#8])
  exact ⟨⟨t, ht⟩, rfl⟩

theorem witness_RomAndBootShadow :
    (∃ t, step (code [0xC9#8]) = .next t) ∧ (code [0xC9#8]).bus.bootEnabled = false := by
  obtain ⟨t, ht, -⟩ := cpuStep_kept (code [0xC9#8])
  exact ⟨⟨_, step_of_cpuStep ht⟩, by decide +kernel⟩

theorem witness_ControlBitWriters :
    Instr.nop ≠ .halt ∧ (∀ n, Instr.nop ≠ .stop n) ∧ Instr.nop ≠ .di ∧ Instr.nop ≠ .ei ∧
      Instr.nop ≠ .reti ∧ Instr.nop.wellFormed = true := by
  refine ⟨by decide, fun n => by simp, by decide, by decide, by decide, by decide⟩

theorem witness_ExecFlags : (code []).cpu.f &&& 0x0F#8 = 0x00#8 := by decide +kernel

theorem witness_AddressMap :
    (0xFEA0 ≤ (0xFEA0#16).toNat ∧ (0xFEFF#16).toNat ≤ 0xFEFF) ∧
      (0xE000 ≤ (0xE000#16).toNat ∧ (0xFDFF#16).toNat ≤ 0xFDFF) ∧
      (let s := resetWith (Config.defaultWithBoot (Vector.replicate 256 0x3E#8));
        s.bus.bootEnabled = true ∧
          s.cfg.bootRom = some (Vector.replicate 256 0x3E#8) ∧ (0x00FF#16).toNat < 256) ∧
      ((0x3FFF#16).toNat < 0x4000 ∧ State.reset.bus.bootEnabled = false) ∧
      (let s := { State.reset with bus := { Bus.reset with nRom := 1 } };
        (0x4000 ≤ (0x4000#16).toNat ∧ (0x7FFF#16).toNat < 0x8000) ∧ s.bus.romBank ≠ 0#5 ∧
          s.bus.romBank.toNat ≤ s.bus.nRom) ∧
      State.reset.bus.nRom < State.reset.bus.romBank.toNat ∧
      (let s := { State.reset with bus := { Bus.reset with nRam := 1, ramEnable := true } };
        (0xA000 ≤ (0xA000#16).toNat ∧ (0xBFFF#16).toNat < 0xC000) ∧ s.bus.ramEnable = true ∧
          s.bus.ramBank.toNat < s.bus.nRam) ∧
      (State.reset.bus.ramEnable = false ∧
        State.reset.bus.nRam ≤ State.reset.bus.ramBank.toNat) := by
  refine ⟨by decide, by decide, ⟨rfl, rfl, by decide⟩, by decide, by decide, by decide, by decide,
    by decide⟩

theorem witness_BankingWrites :
    (0x1FFF#16).toNat < 0x2000 ∧
      (0x2000 ≤ (0x2000#16).toNat ∧ (0x3FFF#16).toNat < 0x4000) ∧
      (0x4000 ≤ (0x4000#16).toNat ∧ (0x5FFF#16).toNat < 0x6000) ∧
      (0x6000 ≤ (0x6000#16).toNat ∧ (0x7FFF#16).toNat < 0x8000) := by decide

theorem witness_IoRegisters : BusOk State.reset.cfg State.reset.bus := reset_busOk

theorem witness_WriteReach :
    BusOk State.reset.cfg State.reset.bus ∧
      plainPlace State.reset 0xE000#16 = some (.internal 0xC000) ∧
      plainPlace State.reset 0xFFFF#16 = some .ie ∧
      plainPlace { State.reset with bus := { Bus.reset with nRam := 1, ramEnable := true } }
        0xBFFF#16 = some (.cartRam 0 0x1FFF) ∧
      storesByte State.reset 0xFF46#16 = true ∧ writeReach 0xC000#16 0xC001#16 = false ∧
      writeReach 0x1FFF#16 0x9FFF#16 = false ∧ writeReach 0xFF46#16 0xFEA0#16 = false :=
  ⟨reset_busOk, by decide, by decide, by decide, by decide, by decide, by decide, by decide⟩

theorem witness_OamDma : BusOk State.reset.cfg State.reset.bus ∧ 159 < 160 :=
  ⟨reset_busOk, by decide⟩

theorem witness_BootDisable :
    (resetWith (Config.defaultWithBoot (Vector.replicate 256 0x00#8))).bus.bootEnabled = true ∧
      0x01#8 ≠ 0x00#8 ∧ (0x00FF#16).toNat < 256 ∧ State.reset.bus.bootEnabled = false :=
  ⟨rfl, by decide, by decide, rfl⟩

theorem witness_LoadRom :
    (List.replicate 0x0149 0x00#8).length ≤ 0x0149 ∧
      0x0149 < (List.replicate 0x0150 0x02#8).length ∧
      (let s := { State.reset with cfg := { Config.default with extRamInit := [(8191, 5#8)] } };
        (s.cfg.extRamInit.map Prod.fst).Nodup ∧ (8191, 5#8) ∈ s.cfg.extRamInit ∧ 8191 < 8192 * 1) ∧
      Inv (picture 0x91#8 0x00#8) := by
  exact ⟨(List.length_replicate).le, by rw [List.length_replicate]; omega, by decide,
    inv_picture _ _⟩

theorem witness_HostRequests :
    (159 < 160 ∧ 143 < 144) ∧ BusOk State.reset.cfg State.reset.bus ∧ 3 ≠ 2 ∧
      0xFF0E#16 ≠ 0xFF0F#16 :=
  ⟨by decide, reset_busOk, by decide, by decide⟩

/-- The last dot of the last line, with the LCD on. -/
def lastDot : State :=
  { picture 0x91#8 0x00#8 with ppu := { Ppu.reset with ly := 153, dot := 455, mode := .vBlank } }

theorem witness_PpuCounters :
    (memRead (picture 0x11#8 0x00#8) 0xFF40#16).getLsbD 7 = false ∧
      (memRead lastDot 0xFF40#16).getLsbD 7 = true ∧ lastDot.ppu.dot < 456 ∧
      lastDot.ppu.ly < 154 ∧ (ppuTick 1 lastDot).ppu.ly < 144 ∧
      (ppuTick 1 lastDot).ppu.dot < 80 ∧ 144 ≤ (ppuTick 0 lastDot).ppu.ly ∧
      (ppuTick 81 lastDot).ppu.dot = 80 ∧ (ppuTick 253 lastDot).ppu.dot = 252 := by
  have h := fun d => ppuTick_counters (s := lastDot) (by decide +kernel) (by decide) d
  refine ⟨by decide +kernel, by decide +kernel, by decide, by decide, ?_, ?_, ?_, ?_, ?_⟩
  · rw [(h 1).2.1]; decide
  · rw [(h 1).1]; decide
  · rw [(h 0).2.1]; decide
  · rw [(h 81).1]; decide
  · rw [(h 253).1]; decide

theorem witness_PpuRequests :
    let s := picture 0x91#8 0x40#8
    Inv s ∧ (memRead s 0xFF40#16).getLsbD 7 = true ∧
      (1 ≤ 144 ∧ 144 ≤ (s.ppu.dot + 65664) / 456 ∧ (s.ppu.ly + 144) % 154 = 144) :=
  ⟨inv_picture _ _, by decide +kernel, by decide +kernel⟩

theorem witness_PpuTickKeeps :
    BusOk State.reset.cfg State.reset.bus ∧ 2 ≤ 7 ∧ 0xC000#16 ≠ 0xFF0F#16 ∧
      0xC000#16 ≠ 0xFF41#16 ∧ 0xC000#16 ≠ 0xFF44#16 :=
  ⟨reset_busOk, by decide, by decide, by decide, by decide⟩

theorem witness_LineEntryDraws :
    let s := picture 0x91#8 0x00#8
    let entered := fun d : Nat =>
      (List.range ((s.ppu.dot + d) / 456)).map fun k => (s.ppu.ly + 1 + k) % 154
    Inv s ∧ (memRead s 0xFF40#16).getLsbD 7 = true ∧ entered 455 = [] ∧ entered 456 = [1] ∧
      entered 911 = [1] ∧ 2 ∈ entered 912 ∧ 3 ∉ entered 912 ∧ 0 ∈ entered 70224 :=
  ⟨inv_picture _ _, by decide +kernel, by decide, by decide, by decide, by decide, by decide,
    by decide +kernel⟩

theorem witness_RenderBackground :
    Inv (picture 0x91#8 0x00#8) ∧ (memRead (picture 0x91#8 0x00#8) 0xFF40#16).getLsbD 1 = false ∧
      143 < 144 ∧ 159 < 160 :=
  ⟨inv_picture _ _, by decide +kernel, by decide, by decide⟩

theorem witness_RenderSprites :
    Inv (picture 0x93#8 0x00#8) ∧ (memRead (picture 0x93#8 0x00#8) 0xFF40#16).getLsbD 1 = true ∧
      topSprite (oneSprite 0x00#8) (objSelect (oneSprite 0x00#8) 1) 0 1 = some 0 :=
  ⟨inv_picture _ _, by decide +kernel, by decide +kernel⟩

/-- V-REN-11: eleven sprites on line 1. -/
def elevenSprites : State :=
  writeFrom 0xFE00#16 ((List.range 11).flatMap fun i => [17#8, BitVec.ofNat 8 (8 + 8 * i), 3#8, 0#8])
    (oneSprite 0x00#8)

theorem witness_SpriteLimit :
    10 < 40 ∧ spriteCovers elevenSprites 1 10 ∧ 10 ∉ objSelect elevenSprites 1 := by
  unfold spriteCovers
  decide +kernel

theorem witness_stored :
    BusOk State.reset.cfg State.reset.bus ∧ storesByte State.reset 0xC000#16 = true ∧
      storesByte State.reset 0xC001#16 = true ∧ writeReach 0xC000#16 0xC002#16 = false ∧
      writeReach 0xC001#16 0xC002#16 = false :=
  ⟨reset_busOk, by decide, by decide, by decide, by decide⟩

theorem witness_LoadPair : Reg16.hl ≠ .sp := by decide

theorem witness_PushAndPop : Reg16Stack.bc ≠ .af ∧ Reg16Stack.af = .af := by decide

theorem witness_PushThenPop :
    let s := code []
    BusOk s.cfg s.bus ∧ s.cpu.f &&& 0x0F#8 = 0x00#8 ∧ storesByte s (s.cpu.sp - 1#16) = true ∧
      storesByte s (s.cpu.sp - 2#16) = true :=
  ⟨busOk_code _, by decide +kernel, by decide +kernel, by decide +kernel⟩

theorem witness_Logic :
    ((.xor, 0b101#3, xor, false) : AluOp × BitVec 3 × (Bool → Bool → Bool) × Bool) ∈
      ([(.and, 0b100#3, and, true), (.xor, 0b101#3, xor, false), (.or, 0b110#3, or, false)] :
        List (AluOp × BitVec 3 × (Bool → Bool → Bool) × Bool)) := by simp

theorem witness_DaaAdjustsA :
    (placed { Cpu.reset with f := 0x00#8 } []).fN = false ∧
      (placed { Cpu.reset with f := 0x40#8 } []).fN = true := by decide +kernel

theorem witness_DecimalAddition :
    99 < 100 ∧ (placed { Cpu.reset with a := 0x99#8 } []).cpu.a.toNat = 99 / 10 * 16 + 99 % 10 := by
  decide +kernel

theorem witness_PairArithmetic : Reg16.de ≠ .sp := by decide

theorem witness_conditions :
    Cond.nz.holds (placed { Cpu.reset with f := 0x00#8 } []) ∧
      ¬ Cond.nz.holds (placed { Cpu.reset with f := 0x80#8 } []) ∧
      Cond.c.holds (placed { Cpu.reset with f := 0x10#8 } []) ∧
      ¬ Cond.c.holds (placed { Cpu.reset with f := 0x00#8 } []) := by
  unfold Cond.holds
  decide +kernel

theorem witness_CallThenReturn :
    let s := code []
    BusOk s.cfg s.bus ∧ storesByte s (s.cpu.sp - 1#16) = true ∧
      storesByte s (s.cpu.sp - 2#16) = true :=
  ⟨busOk_code _, by decide +kernel, by decide +kernel⟩

theorem witness_SystemInstructions :
    (let s := ready false false false false false 0x01#8 0x01#8 [];
      s.cfg.haltBug = true ∧ s.cpu.ime = false ∧
        memRead s 0xFFFF#16 &&& memRead s 0xFF0F#16 &&& 0x1F#8 ≠ 0x00#8) ∧
      (ready true false false false false 0x01#8 0x01#8 []).cpu.ime = true := by decide +kernel

theorem witness_UnusedBytes :
    ((.illegalFD, 0xFD#8) : Instr × Byte) ∈ ([(.illegalFC, 0xFC#8), (.illegalFD, 0xFD#8)] :
      List (Instr × Byte)) := by decide

end Sys2Proof.Tests
end

section
/-!
PROOFS. The state of the block: what it is after construction, what every system step keeps, how a
waiting CPU steps, which instructions write the control bits, the register pairs and the live I/O
registers.
-/

namespace Sys2Proof.Machine

/-! ## The I/O registers on the bus: byte `n` of R140 is at 0xFF00 + `n` -/

theorem ioAddr_toNat {n : Nat} (hn : n ≤ 0x7F) :
    (BitVec.ofNat 16 (0xFF00 + n)).toNat = 0xFF00 + n := by
  rw [BitVec.toNat_ofNat]
  omega

theorem memRead_ioReg (s : State) {n : Nat} (hn : n ≤ 0x7F) :
    memRead s (BitVec.ofNat 16 (0xFF00 + n)) = ioRead s n := by
  have ha := ioAddr_toNat hn
  rw [memRead_io (by omega) (by omega), ha, Nat.add_sub_cancel_left]

theorem memRead_if (s : State) : memRead s 0xFF0F#16 = 0xE0#8 ||| (s.io 0x0F &&& 0x1F#8) :=
  memRead_ioReg s (n := 0x0F) (by decide)

theorem memRead_ieReg (s : State) : memRead s 0xFFFF#16 = s.bus.ie :=
  memRead_ie rfl s

theorem memWrite_ioReg (s : State) {n : Nat} (hn : n ≤ 0x7F) (v : Byte) :
    memWrite (BitVec.ofNat 16 (0xFF00 + n)) v s = ioWrite n v s := by
  have ha := ioAddr_toNat hn
  rw [memWrite_io (by omega) (by omega), ha, Nat.add_sub_cancel_left]

theorem memRead_stat (s : State) : memRead s 0xFF41#16 = statRead s :=
  memRead_ioReg s (n := 0x41) (by decide)

theorem memRead_ly (s : State) : memRead s 0xFF44#16 = BitVec.ofNat 8 s.ppu.ly :=
  memRead_ioReg s (n := 0x44) (by decide)

theorem memRead_lyc (s : State) : memRead s 0xFF45#16 = s.io 0x45 :=
  memRead_ioReg s (n := 0x45) (by decide)

theorem memRead_bootReg (s : State) : memRead s 0xFF50#16 = 0xFF#8 :=
  memRead_ioReg s (n := 0x50) (by decide)

theorem memWrite_if (v : Byte) (s : State) :
    memWrite 0xFF0F#16 v s = s.setIo 0x0F (v &&& 0x1F#8) :=
  memWrite_ioReg s (n := 0x0F) (by decide) v

theorem memWrite_stat (v : Byte) (s : State) :
    memWrite 0xFF41#16 v s = s.setIo 0x41 ((s.io 0x41 &&& 0x87#8) ||| (v &&& 0x78#8)) :=
  memWrite_ioReg s (n := 0x41) (by decide) v

theorem memWrite_ly (v : Byte) (s : State) : memWrite 0xFF44#16 v s = s :=
  memWrite_ioReg s (n := 0x44) (by decide) v

theorem memWrite_ieReg (v : Byte) (s : State) :
    memWrite 0xFFFF#16 v s = { s with bus := { s.bus with ie := v } } :=
  memWrite_ie rfl v s

/-! ## The invariant of the block -/

/-- A system step is a CPU step, which keeps what `StepKept` says, and then the tick (R1270). -/
theorem step_next_cases {s t : State} (h : step s = .next t) :
    ∃ u, StepKept s u ∧ t = tickAfter u := by
  obtain ⟨u, hu, hk⟩ := cpuStep_kept s
  rw [step_of_cpuStep hu] at h
  exact ⟨u, hk, (Host.Outcome.next.inj h).symm⟩

theorem StepKept.inv {s t : State} (h : StepKept s t) (hs : Inv s) : Inv t where
  bus := h.busOk hs.bus
  ppu := by rw [h.cfg, h.ppu]; exact hs.ppu
  cpu := h.cpuOk hs.cpu

theorem Inv.tickAfter {s : State} (h : Inv s) : Inv (tickAfter s) where
  bus := h.bus.ppuTick _
  ppu := h.ppu.ppuTick _
  cpu := by
    obtain ⟨-, hcpu, -⟩ := ppuTick_frame (s.mcycles * s.cfg.dotsPerMCycle) s
    rw [Machine.tickAfter, hcpu]
    exact h.cpu

/-- Settles O7: the CPU step keeps the invariant, and so does the tick after it. -/
theorem invStep : Obligations.InvStep := by
  intro s t hs h
  obtain ⟨u, hk, rfl⟩ := step_next_cases h
  exact (hk.inv hs).tickAfter

/-! ## Waiting (R330, R1010, R1012) -/

/-- What the bus shows of IE and IF, masked, is the deliverable sources (R1107). -/
theorem memRead_ie_and_if (s : State) :
    memRead s 0xFFFF#16 &&& memRead s 0xFF0F#16 &&& 0x1F#8 = deliverable s := by
  rw [memRead_if, memRead_ieReg, deliverable, BitVec.and_assoc, BitVec.and_assoc]
  congr 1
  generalize s.io 0x0F = v
  revert v
  decide

/-- The bus shows IF's joypad bit as it is stored (R150). -/
theorem memRead_if_joypad (s : State) :
    (memRead s 0xFF0F#16).getLsbD 4 = (s.io 0x0F).getLsbD 4 := by
  simp [memRead_if]

theorem cpuStep_faulted {s : State} (hf : s.cpu.faulted = true) :
    cpuStep s = .next { s with mcycles := 0 } := by
  simp [cpuStep, hf, State.setCycles]

theorem wakeStop_of_running {s : State} (h : s.cpu.stopped = false) : wakeStop s = (true, s) := by
  rw [wakeStop, if_neg (by rw [h]; decide)]

theorem wakeHalt_of_running {s : State} (h : s.cpu.halted = false) : wakeHalt s = (true, s) := by
  rw [wakeHalt, if_neg (by rw [h]; decide)]

theorem cpuStep_stopWait {s : State} (hf : s.cpu.faulted = false) (hs : s.cpu.stopped = true)
    (hj : (s.io 0x0F).getLsbD 4 = false) : cpuStep s = .next { s with mcycles := 1 } := by
  have hw : wakeStop s = (false, s) := by
    rw [wakeStop, if_pos hs, if_neg (by rw [hj]; decide)]
  rw [cpuStep, if_neg (by rw [hf]; decide), hw, if_pos rfl]
  rfl

theorem cpuStep_haltWait {s : State} (hf : s.cpu.faulted = false) (hs : s.cpu.stopped = false)
    (hh : s.cpu.halted = true) (hd : deliverable s = 0x00#8) :
    cpuStep s = .next { s with mcycles := 1 } := by
  have hw : wakeHalt s = (false, s) := by
    rw [wakeHalt, if_pos hh, if_neg (fun h => h hd)]
  rw [cpuStep, if_neg (by rw [hf]; decide), wakeStop_of_running hs, hw]
  rfl

/-- Waking from STOP goes on in the same step (R1012). -/
theorem cpuStep_stopWake {s : State} (hf : s.cpu.faulted = false) (hs : s.cpu.stopped = true)
    (hj : (s.io 0x0F).getLsbD 4 = true) :
    cpuStep s = cpuStep { s with cpu := { s.cpu with stopped := false } } := by
  have hw : wakeStop s = (true, { s with cpu := { s.cpu with stopped := false } }) := by
    rw [wakeStop, if_pos hs, if_pos hj]
  have hn : ¬ s.cpu.faulted = true := by rw [hf]; decide
  rw [cpuStep, cpuStep, if_neg hn, if_neg hn, hw, wakeStop_of_running rfl]

/-- Waking from HALT goes on in the same step (R1010). -/
theorem cpuStep_haltWake {s : State} (hf : s.cpu.faulted = false) (hs : s.cpu.stopped = false)
    (hh : s.cpu.halted = true) (hd : deliverable s ≠ 0x00#8) :
    cpuStep s = cpuStep { s with cpu := { s.cpu with halted := false } } := by
  have hw : wakeHalt s = (true, { s with cpu := { s.cpu with halted := false } }) := by
    rw [wakeHalt, if_pos hh, if_pos hd]
  have hn : ¬ s.cpu.faulted = true := by rw [hf]; decide
  rw [cpuStep, cpuStep, if_neg hn, if_neg hn, wakeStop_of_running hs, hw,
    wakeStop_of_running (by exact hs), wakeHalt_of_running rfl]
  rfl

/-- The system step is a function of the CPU step (R1270). -/
theorem step_congr {s t : State} (h : cpuStep s = cpuStep t) : step s = step t := by
  simp only [step, systemStep, h]

/-- Settles O11: each clause is one way the CPU step can go, and the tick after it. -/
theorem waitingSteps : Obligations.WaitingSteps := by
  intro s
  simp only [memRead_ie_and_if, memRead_if_joypad]
  refine ⟨fun hf => ?_, fun hf hs hj => ?_, fun hf hs hh hd => ?_, fun hf hs hj => ?_,
    fun hf hs hh hd => ?_⟩
  · have h := cpuStep_faulted hf
    refine ⟨h, ?_⟩
    rw [step_of_cpuStep h, tickAfter, Nat.zero_mul]
  · have h := cpuStep_stopWait hf hs hj
    refine ⟨h, ?_⟩
    rw [step_of_cpuStep h, tickAfter, Nat.one_mul]
  · have h := cpuStep_haltWait hf hs hh hd
    refine ⟨h, ?_⟩
    rw [step_of_cpuStep h, tickAfter, Nat.one_mul]
  · have h := cpuStep_stopWake hf hs hj
    exact ⟨h, step_congr h⟩
  · have h := cpuStep_haltWake hf hs hh hd
    exact ⟨h, step_congr h⟩

/-! ## What no tick changes of the bus -/

/-- Of the bus, `t` differs from `s` in internal storage at most. -/
def OnlyMem (s t : State) : Prop :=
  ∃ m, t.bus = { s.bus with mem := m }

theorem OnlyMem.refl (s : State) : OnlyMem s s :=
  ⟨s.bus.mem, rfl⟩

theorem OnlyMem.trans {s t u : State} (h : OnlyMem s t) (h' : OnlyMem t u) : OnlyMem s u := by
  obtain ⟨m, hm⟩ := h
  obtain ⟨m', hm'⟩ := h'
  exact ⟨m', by rw [hm', hm]⟩

theorem request_onlyMem (k : Nat) (s : State) : OnlyMem s (request k s) :=
  ⟨_, rfl⟩

theorem crossLine_onlyMem (s : State) : OnlyMem s (crossLine s) := by
  have h : OnlyMem s (lineEntered s) := ⟨s.bus.mem, by rw [lineEntered_frame]⟩
  rw [crossLine_eq]
  split
  · exact h.trans (request_onlyMem 0 _)
  · exact h

theorem crossLines_onlyMem (n : Nat) (s : State) : OnlyMem s (crossLines n s) := by
  induction n generalizing s with
  | zero => exact OnlyMem.refl s
  | succ n ih => exact (crossLine_onlyMem s).trans (ih (crossLine s))

theorem updateStatLine_onlyMem (s : State) : OnlyMem s (updateStatLine s) := by
  simp only [updateStatLine]
  split
  · exact request_onlyMem 1 s
  · exact OnlyMem.refl s

/-- A tick changes no part of the bus but internal storage (R202, R1150). -/
theorem ppuTick_onlyMem (d : Nat) (s : State) : OnlyMem s (ppuTick d s) := by
  by_cases h : (s.io 0x40).getLsbD 7 = true
  · rw [ppuTick_on h]
    exact (crossLines_onlyMem _ { s with ppu := { s.ppu with dot := s.ppu.dot + d } }).trans
      (updateStatLine_onlyMem (updateMode _))
  · rw [ppuTick_off (by simpa using h)]
    exact OnlyMem.refl s

/-- Settles O15: the CPU step keeps the ROM and can only turn the shadow off, and the tick touches
neither. -/
theorem romAndBootShadow : Obligations.RomAndBootShadow := by
  intro s t h
  obtain ⟨u, hk, rfl⟩ := step_next_cases h
  obtain ⟨m, hbus⟩ := ppuTick_onlyMem (u.mcycles * u.cfg.dotsPerMCycle) u
  obtain ⟨hcfg, -⟩ := ppuTick_frame (u.mcycles * u.cfg.dotsPerMCycle) u
  rw [tickAfter, hbus, hcfg, hk.cfg]
  refine ⟨hk.rom, hk.nRom, hk.nRam, rfl, fun hoff => Bool.eq_false_iff.mpr fun hon => ?_⟩
  exact absurd (hoff.symm.trans (hk.boot hon)) (by decide)

/-! ## Who writes the control bits -/

/-- The control group, by name (R104). -/
theorem isControl_cases {i : Instr} (h : i.isControl = true) :
    i = .halt ∨ (∃ n, i = .stop n) ∨ i = .di ∨ i = .ei ∨ i = .reti ∨ i.wellFormed = false := by
  unfold Instr.isControl at h
  split at h
  · exact .inl rfl
  · exact .inr (.inl ⟨_, rfl⟩)
  · exact .inr (.inr (.inl rfl))
  · exact .inr (.inr (.inr (.inl rfl)))
  · exact .inr (.inr (.inr (.inr (.inl rfl))))
  iterate 11
    · exact .inr (.inr (.inr (.inr (.inr rfl))))
  · cases h

/-- Settles O16: the instructions excepted are the control group, and the rest leave the control
bits and the fault log alone. -/
theorem controlBitWriters : Obligations.ControlBitWriters := by
  intro i s
  cases hi : i.isControl with
  | false =>
    obtain ⟨t, ht, hk⟩ := exec_plainTouched i hi s
    exact ⟨t, ht, hk.cfg, hk.ppu, fun _ _ _ _ _ _ =>
      ⟨hk.ime, hk.eiDelay, hk.halted, hk.stopped, hk.haltBug, hk.faulted, hk.faultLog⟩⟩
  | true =>
    obtain ⟨t, ht, hk⟩ := exec_touched i s
    refine ⟨t, ht, hk.cfg, hk.ppu, fun hhalt hstop hdi hei hreti hwf => ?_⟩
    rcases isControl_cases hi with h | ⟨n, h⟩ | h | h | h | h
    · exact absurd h hhalt
    · exact absurd h (hstop n)
    · exact absurd h hdi
    · exact absurd h hei
    · exact absurd h hreti
    · exact absurd (h.symm.trans hwf) (by decide)

/-! ## The register pairs -/

/-- Masking a word with 0xFFF0 masks its low byte with 0xF0 (R102). -/
theorem joinBytes_and_high (hi lo : Byte) :
    joinBytes hi (lo &&& 0xF0#8) = joinBytes hi lo &&& 0xFFF0#16 := by
  have h : 0xFFF0#16 = BitVec.allOnes 8 ++ 0xF0#8 := rfl
  rw [joinBytes, joinBytes, h, BitVec.and_append, BitVec.and_allOnes]

/-- Settles O19: a pair is its two registers joined, and a write of it splits the value into them. -/
theorem pairViews : Obligations.PairViews := by
  intro s v
  refine ⟨⟨joinBytes_toNat _ _, joinBytes_toNat _ _, joinBytes_toNat _ _, joinBytes_toNat _ _⟩,
    joinBytes_hiByte_loByte v, rfl, joinBytes_hiByte_loByte v, rfl, joinBytes_hiByte_loByte v, rfl,
    ?_, rfl⟩
  calc (s.setReg16Stack .af v).reg16Stack .af
      = joinBytes (hiByte v) (loByte v &&& 0xF0#8) := rfl
    _ = v &&& 0xFFF0#16 := by rw [joinBytes_and_high, joinBytes_hiByte_loByte]

/-! ## The live and masked I/O registers (R142-R152) -/

/-- Settles O22, register by register: on a sound bus a stored byte reads back. -/
theorem ioRegisters : Obligations.IoRegisters := by
  intro s v hb
  refine ⟨?_, memWrite_stat v s, ?_, memRead_ly s, memWrite_ly v s, ?_, ?_, memRead_bootReg s⟩
  · rw [memRead_stat, memRead_lyc]
    rfl
  · rw [memWrite_stat, State.io_setIo hb.mem_wf, if_pos rfl]
  · rw [memWrite_if, memRead_if, State.io_setIo hb.mem_wf, if_pos rfl, BitVec.and_assoc,
      BitVec.and_self]
  · rw [memWrite_ieReg, memRead_ieReg]

/-! ## Stores filled cell by cell -/

theorem storeAll_cons (sp : Space) (m : List Host.Cell) (c : Host.Cell) (cells : List Host.Cell) :
    storeAll sp m (c :: cells) = storeAll sp (Cells.set (unlisted sp) m c.1 c.2) cells := rfl

theorem storeAll_wf {sp : Space} {m : List Host.Cell} (hm : Memory.wf sp m = true)
    (cells : List Host.Cell) : Memory.wf sp (storeAll sp m cells) = true := by
  induction cells generalizing m with
  | nil => exact hm
  | cons c cells ih => exact ih (Memory.wf_set sp c.1 c.2 hm)

/-- Filling lists no location but those of the cells and those listed before. -/
theorem storeAll_keys {sp : Space} (P : Nat → Prop) {m cells : List Host.Cell}
    (hm : ∀ c ∈ m, P c.1) (hc : ∀ c ∈ cells, P c.1) : ∀ c ∈ storeAll sp m cells, P c.1 := by
  induction cells generalizing m with
  | nil => exact hm
  | cons c cells ih =>
    rw [List.forall_mem_cons] at hc
    exact ih (Cells.keys_set P c.2 hc.1 hm) hc.2

/-- A location that no cell names reads as before. -/
theorem get_storeAll_of_not_listed {sp : Space} {m cells : List Host.Cell} {k : Nat}
    (hm : Memory.wf sp m = true) (hc : ∀ c ∈ cells, c.1 ≠ k) :
    Cells.get (unlisted sp) (storeAll sp m cells) k = Cells.get (unlisted sp) m k := by
  induction cells generalizing m with
  | nil => rfl
  | cons c cells ih =>
    rw [List.forall_mem_cons] at hc
    rw [storeAll_cons, ih (Memory.wf_set sp c.1 c.2 hm) hc.2, Cells.get_set_other c.2 hc.1.symm hm]

/-- A location that cells name, all with the same value, reads that value. -/
theorem get_storeAll_of_listed {sp : Space} {m cells : List Host.Cell} {k : Nat} {v : Byte}
    (hm : Memory.wf sp m = true) (hv : (k, v) ∈ cells) (hc : ∀ c ∈ cells, c.1 = k → c.2 = v) :
    Cells.get (unlisted sp) (storeAll sp m cells) k = v := by
  induction cells generalizing m with
  | nil => cases hv
  | cons c cells ih =>
    rw [List.forall_mem_cons] at hc
    have hset := Memory.wf_set sp c.1 c.2 hm
    by_cases hlater : (k, v) ∈ cells
    · exact ih hset hlater hc.2
    · obtain rfl : (k, v) = c := (List.mem_cons.mp hv).resolve_right hlater
      have hnone : ∀ x ∈ cells, x.1 ≠ k := by
        rintro ⟨j, w⟩ hx rfl
        obtain rfl : w = v := hc.2 _ hx rfl
        exact hlater hx
      rw [storeAll_cons, get_storeAll_of_not_listed hset hnone, Cells.get_set_same k v hm]

/-- Storing defaults lists nothing. -/
theorem storeAll_unlisted {sp : Space} {cells : List Host.Cell}
    (h : ∀ c ∈ cells, c.2 = unlisted sp c.1) : storeAll sp [] cells = [] := by
  induction cells with
  | nil => rfl
  | cons c cells ih =>
    rw [List.forall_mem_cons] at h
    have hset : Cells.set (unlisted sp) [] c.1 c.2 = [] := if_pos h.1
    rw [storeAll_cons, hset, ih h.2]

/-! ## Construction (R160-R162, R1300) -/

/-- The I/O cells are the bytes of `P_IO_INIT` from 0xFF00 on (R140). -/
theorem mem_ioCells {c : Config} {x : Host.Cell} :
    x ∈ ioCells c ↔ ∃ (n : Nat) (h : n < 128), x = (0xFF00 + n, c.ioInit[n]) := by
  rw [ioCells, List.mem_map]
  constructor
  · rintro ⟨⟨v, n⟩, hp, rfl⟩
    have hget : c.ioInit.toList[n]? = some v := List.mem_zipIdx_iff_getElem?.mp hp
    obtain ⟨h, rfl⟩ := List.getElem?_eq_some_iff.mp hget
    exact ⟨n, by simpa using h, by simp⟩
  · rintro ⟨n, h, rfl⟩
    exact ⟨(c.ioInit[n], n), List.mem_zipIdx_iff_getElem?.mpr (by simp [h]), rfl⟩

/-- Internal storage after construction, before `P_RAM_INIT` is stored. -/
def initialIo (c : Config) : List Host.Cell := storeAll .internal [] (ioCells c)

theorem resetWith_mem (c : Config) :
    (resetWith c).bus.mem =
      storeAll .internal (initialIo c) (c.ramInit.filter fun p => isRam p.1) := rfl

theorem initialIo_wf (c : Config) : Memory.wf .internal (initialIo c) = true :=
  storeAll_wf rfl _

theorem get_initialIo (c : Config) {k : Nat} (h : k < 128) :
    Cells.get (unlisted .internal) (initialIo c) (0xFF00 + k) = c.ioInit[k] := by
  refine get_storeAll_of_listed rfl (mem_ioCells.mpr ⟨k, h, rfl⟩) fun x hx hxk => ?_
  obtain ⟨n, hn, rfl⟩ := mem_ioCells.mp hx
  obtain rfl : n = k := Nat.add_left_cancel hxk
  rfl

theorem isRam_iff (k : Nat) :
    isRam k = true ↔ isInternal k = true ∧ ¬ (0xFF00 ≤ k ∧ k ≤ 0xFF7F) := by
  simp only [isRam, Bool.and_eq_true, Bool.not_eq_true', decide_eq_false_iff_not]

/-- The I/O bytes are those of `P_IO_INIT`: no RAM cell lies among them (R140, R1301). -/
theorem resetWith_io (c : Config) {k : Nat} (h : k < 128) : (resetWith c).io k = c.ioInit[k] := by
  have hram : ∀ x ∈ c.ramInit.filter fun p => isRam p.1, x.1 ≠ 0xFF00 + k := by
    intro x hx
    obtain ⟨-, hio⟩ := (isRam_iff _).mp (List.mem_filter.mp hx).2
    omega
  rw [State.io, State.memAt, resetWith_mem, get_storeAll_of_not_listed (initialIo_wf c) hram,
    get_initialIo c h]

/-- A RAM byte that `P_RAM_INIT` names once holds what it gives (R162, D23). -/
theorem resetWith_memAt {c : Config} (hn : (c.ramInit.map Prod.fst).Nodup) {k : Nat} {v : Byte}
    (hv : (k, v) ∈ c.ramInit) (hk : isRam k = true) : (resetWith c).memAt k = v := by
  refine get_storeAll_of_listed (initialIo_wf c) (List.mem_filter.mpr ⟨hv, hk⟩) fun x hx hxk => ?_
  obtain rfl : x = (k, v) := List.inj_on_of_nodup_map hn (List.mem_filter.mp hx).1 hv hxk
  rfl

theorem resetWith_cpu_of_none {c : Config} (h : c.bootRom = none) :
    (resetWith c).cpu = Cpu.reset := by
  simp [resetWith, h]

theorem resetWith_cpu_of_boot {c : Config} (h : c.bootRom ≠ none) :
    (resetWith c).cpu = Cpu.resetBoot := by
  simp [resetWith, Option.isSome_iff_ne_none.mpr h]

theorem resetWith_cpu_cases (c : Config) :
    (resetWith c).cpu = Cpu.reset ∨ (resetWith c).cpu = Cpu.resetBoot := by
  by_cases h : c.bootRom = none
  · exact .inl (resetWith_cpu_of_none h)
  · exact .inr (resetWith_cpu_of_boot h)

theorem resetWith_of_none {c : Config} (h : c.bootRom = none) :
    resetWith c =
      { State.reset with cfg := c, bus := { Bus.reset with mem := (resetWith c).bus.mem } } := by
  simp [resetWith, h, State.reset, Bus.reset]

/-- The default `P_IO_INIT` is what I/O storage reads with nothing listed (D22). -/
theorem defaultIoInit_eq_unlisted {n : Nat} (h : n < 128) :
    Config.defaultIoInit[n] = unlisted .internal (0xFF00 + n) := by
  simp only [Config.defaultIoInit, unlisted, Vector.getElem_set, Vector.getElem_replicate]
  by_cases hbgp : n = 0x47
  · simp [hbgp]
  by_cases hlcdc : n = 0x40
  · simp [hlcdc]
  rw [if_neg (Ne.symm hbgp), if_neg (Ne.symm hlcdc), if_neg (by omega), if_neg (by omega)]

/-- `State.reset` is the construction with the default parameters (R1300, D22). -/
theorem resetWith_default : resetWith Config.default = State.reset := by
  have hio : initialIo Config.default = [] := storeAll_unlisted fun x hx => by
    obtain ⟨n, hn, rfl⟩ := mem_ioCells.mp hx
    exact defaultIoInit_eq_unlisted hn
  have hmem : (resetWith Config.default).bus.mem = [] := by
    rw [resetWith_mem, hio]
    rfl
  rw [resetWith_of_none rfl, hmem]
  rfl

/-- Settles O5: the CPU is one of the two reset CPUs, the stores hold the parameters' bytes, and the
rest is as the construction writes it. -/
theorem resetState : Obligations.ResetState := by
  refine ⟨resetWith_default, fun c => ⟨fun h => ?_, fun h => ?_, ?_, ⟨rfl, rfl, rfl⟩, Option.isSome_iff_ne_none,
    ⟨rfl, rfl, rfl, fun _ => rfl⟩, fun _ h => resetWith_io c h,
    fun hn _ _ hv hk => resetWith_memAt hn hv hk, ⟨rfl, rfl, rfl, rfl, fun _ => rfl⟩⟩⟩
  · rw [resetWith_cpu_of_none h]
    exact ⟨rfl, rfl, rfl, rfl, rfl, rfl, rfl, rfl, rfl, rfl⟩
  · rw [resetWith_cpu_of_boot h]
    exact ⟨rfl, rfl, rfl, rfl, rfl, rfl, rfl, rfl, rfl, rfl⟩
  · rcases resetWith_cpu_cases c with h | h <;> rw [h]
    · exact ⟨rfl, rfl, rfl, rfl, rfl, rfl, rfl⟩
    · exact ⟨rfl, rfl, rfl, rfl, rfl, rfl, rfl⟩

theorem initialIo_keys (c : Config) : ∀ p ∈ initialIo c, isInternal p.1 = true := by
  refine storeAll_keys (fun k => isInternal k = true) (fun _ h => by cases h) fun x hx => ?_
  obtain ⟨n, hn, rfl⟩ := mem_ioCells.mp hx
  exact isInternal_io (Nat.le_of_lt_succ hn)

theorem resetWith_busOk (c : Config) : BusOk (resetWith c).cfg (resetWith c).bus where
  mem_wf := storeAll_wf (initialIo_wf c) _
  rom_wf := rfl
  ext_wf := rfl
  mem_keys := storeAll_keys (fun k => isInternal k = true) (initialIo_keys c) fun _ hx =>
    ((isRam_iff _).mp (List.mem_filter.mp hx).2).1
  rom_keys := fun _ h => by cases h
  ext_keys := fun _ h => by cases h
  rom_bank := (by decide : 1#5 ≠ 0#5)
  boot := id

theorem resetWith_ppuOk (c : Config) : PpuOk (resetWith c).cfg (resetWith c).ppu where
  fb_wf := rfl
  fb_keys := fun _ h => by cases h
  dot_lt := (by decide : 0 < 456)
  ly_lt := (by decide : 0 < 154)
  mode_eq := rfl

theorem resetWith_cpuOk (c : Config) : CpuOk (resetWith c).cpu := by
  rcases resetWith_cpu_cases c with h | h <;> rw [h]
  · exact ⟨rfl, fun hb => by cases hb⟩
  · exact ⟨rfl, fun hb => by cases hb⟩

theorem resetWith_inv (c : Config) : Inv (resetWith c) :=
  ⟨resetWith_busOk c, resetWith_ppuOk c, resetWith_cpuOk c⟩

/-- Settles O6: `State.reset` is the construction with the default parameters. -/
theorem invReset : Obligations.InvReset :=
  ⟨resetWith_default ▸ resetWith_inv Config.default, resetWith_inv⟩

end Sys2Proof.Machine
end

section
/-!
PROOFS. Memory: the address map, what each write does and how far it reaches, the DMA copy, the boot
shadow, the loading of a cartridge, and what a PPU tick leaves of memory.
-/

namespace Sys2Proof.Machine

/-! ## The internal byte behind an address -/

/-- The address of the internal byte that address `a` names: echo RAM names the byte 0x2000 below it
(R212). -/
def cellOf (a : Word) : Nat :=
  if 0xE000 ≤ a.toNat ∧ a.toNat ≤ 0xFDFF then a.toNat - 0x2000 else a.toNat

theorem cellOf_of_echo {a : Word} (h1 : 0xE000 ≤ a.toNat) (h2 : a.toNat ≤ 0xFDFF) :
    cellOf a = a.toNat - 0x2000 :=
  if_pos ⟨h1, h2⟩

theorem cellOf_of_not_echo {a : Word} (h : ¬ (0xE000 ≤ a.toNat ∧ a.toNat ≤ 0xFDFF)) :
    cellOf a = a.toNat :=
  if_neg h

/-- The addresses of plain internal storage outside the I/O registers: VRAM, work RAM and its echo,
OAM and HRAM (R210, R230). -/
def NamesRam (a : Word) : Prop :=
  (0x8000 ≤ a.toNat ∧ a.toNat ≤ 0x9FFF) ∨ (0xC000 ≤ a.toNat ∧ a.toNat ≤ 0xFE9F) ∨
    (0xFF80 ≤ a.toNat ∧ a.toNat ≤ 0xFFFE)

theorem memRead_namesRam {a : Word} (h : NamesRam a) (s : State) :
    memRead s a = s.memAt (cellOf a) := by
  rcases h with ⟨h1, h2⟩ | ⟨h1, h2⟩ | ⟨h1, h2⟩
  · rw [memRead_vram h1 h2, cellOf_of_not_echo (by omega)]
  · by_cases hwram : a.toNat ≤ 0xDFFF
    · rw [memRead_wram h1 hwram, cellOf_of_not_echo (by omega)]
    by_cases hecho : a.toNat ≤ 0xFDFF
    · rw [memRead_echo (by omega) hecho, cellOf_of_echo (by omega) hecho]
    · rw [memRead_oam (by omega) h2, cellOf_of_not_echo (by omega)]
  · rw [memRead_hram h1 h2, cellOf_of_not_echo (by omega)]

theorem memWrite_namesRam {a : Word} (h : NamesRam a) (v : Byte) (s : State) :
    memWrite a v s = s.setMemAt (cellOf a) v := by
  rcases h with ⟨h1, h2⟩ | ⟨h1, h2⟩ | ⟨h1, h2⟩
  · rw [memWrite_vram h1 h2, cellOf_of_not_echo (by omega)]
  · by_cases hwram : a.toNat ≤ 0xDFFF
    · rw [memWrite_wram h1 hwram, cellOf_of_not_echo (by omega)]
    by_cases hecho : a.toNat ≤ 0xFDFF
    · rw [memWrite_echo (by omega) hecho, cellOf_of_echo (by omega) hecho]
    · rw [memWrite_oam (by omega) h2, cellOf_of_not_echo (by omega)]
  · rw [memWrite_hram h1 h2, cellOf_of_not_echo (by omega)]

/-! ## What a read depends on -/

/-- Whether a read of `b` depends on the internal byte `k`: its own byte, and LYC for STAT (R142). -/
def ShowsCell (b : Word) (k : Nat) : Prop :=
  k = cellOf b ∨ (b.toNat = 0xFF41 ∧ k = 0xFF45)

/-- `s` and `t` agree on everything that a read of `b` depends on (R210, R211). -/
structure SameView (b : Word) (s t : State) : Prop where
  cfg : t.cfg = s.cfg
  rom : t.bus.rom = s.bus.rom
  nRom : t.bus.nRom = s.bus.nRom
  nRam : t.bus.nRam = s.bus.nRam
  boot : b.toNat ≤ 0x00FF → t.bus.bootEnabled = s.bus.bootEnabled
  romBank : 0x4000 ≤ b.toNat → b.toNat ≤ 0x7FFF → t.bus.romBank = s.bus.romBank
  ramEnable : 0xA000 ≤ b.toNat → b.toNat ≤ 0xBFFF → t.bus.ramEnable = s.bus.ramEnable
  ramBank : 0xA000 ≤ b.toNat → b.toNat ≤ 0xBFFF → t.bus.ramBank = s.bus.ramBank
  ext : 0xA000 ≤ b.toNat → b.toNat ≤ 0xBFFF →
    t.extAt s.bus.ramBank.toNat (b.toNat - 0xA000) = s.extAt s.bus.ramBank.toNat (b.toNat - 0xA000)
  cell : ∀ k, ShowsCell b k → t.memAt k = s.memAt k
  ppu : b.toNat = 0xFF41 ∨ b.toNat = 0xFF44 → t.ppu = s.ppu
  ie : b.toNat = 0xFFFF → t.bus.ie = s.bus.ie

theorem SameView.refl (b : Word) (s : State) : SameView b s s where
  cfg := rfl
  rom := rfl
  nRom := rfl
  nRam := rfl
  boot _ := rfl
  romBank _ _ := rfl
  ramEnable _ _ := rfl
  ramBank _ _ := rfl
  ext _ _ := rfl
  cell _ _ := rfl
  ppu _ := rfl
  ie _ := rfl

theorem ioRead_congr {s t : State} {n : Nat} (hio : t.io n = s.io n)
    (hlyc : n = 0x41 → t.io 0x45 = s.io 0x45) (hppu : n = 0x41 ∨ n = 0x44 → t.ppu = s.ppu) :
    ioRead t n = ioRead s n := by
  by_cases hstat : n = 0x41
  · subst hstat
    simp [ioRead, statRead, hio, hlyc rfl, hppu (.inl rfl)]
  by_cases hly : n = 0x44
  · subst hly
    simp [ioRead, hppu (.inr rfl)]
  simp only [ioRead, hio, if_neg hstat, if_neg hly]
  by_cases hif : n = 0x0F
  · subst hif
    simp [hio]
  · simp [hif]

/-- A read depends on no more than `SameView` names (R211). -/
theorem SameView.memRead_eq {b : Word} {s t : State} (h : SameView b s t) :
    memRead t b = memRead s b := by
  have hlt := b.isLt
  have hrom : ∀ o, t.romAt o = s.romAt o := fun o => by simp only [State.romAt, h.rom]
  have hcell := h.cell _ (.inl rfl)
  by_cases h0 : b.toNat ≤ 0x00FF
  · have hboot := h.boot h0
    cases hb : s.bus.bootEnabled with
    | false => rw [memRead_rom0 (.inl (hboot.trans hb)) (by omega), memRead_rom0 (.inl hb) (by omega), hrom]
    | true => rw [memRead_boot (hboot.trans hb) h0, memRead_boot hb h0, bootByte, bootByte, h.cfg]
  by_cases h1 : b.toNat ≤ 0x3FFF
  · rw [memRead_rom0 (.inr (by omega)) h1, memRead_rom0 (.inr (by omega)) h1, hrom]
  by_cases h2 : b.toNat ≤ 0x7FFF
  · simp only [memRead_romBank (by omega) h2, h.romBank (by omega) h2, h.nRom, hrom]
  by_cases h3 : 0xA000 ≤ b.toNat ∧ b.toNat ≤ 0xBFFF
  · obtain ⟨h3, h4⟩ := h3
    simp only [memRead_ext h3 h4, h.ramEnable h3 h4, h.ramBank h3 h4, h.nRam, h.ext h3 h4]
  by_cases h4 : 0xFEA0 ≤ b.toNat ∧ b.toNat ≤ 0xFEFF
  · rw [memRead_hole h4.1 h4.2, memRead_hole h4.1 h4.2]
  by_cases h5 : 0xFF00 ≤ b.toNat ∧ b.toNat ≤ 0xFF7F
  · obtain ⟨h5, h6⟩ := h5
    rw [memRead_io h5 h6, memRead_io h5 h6]
    rw [cellOf_of_not_echo (by omega)] at hcell
    refine ioRead_congr ?_ (fun hn => ?_) (fun hn => h.ppu (by omega))
    · rw [State.io, State.io, Nat.add_sub_cancel' h5, hcell]
    · exact h.cell 0xFF45 (.inr ⟨by omega, rfl⟩)
  by_cases h6 : b.toNat = 0xFFFF
  · rw [memRead_ie h6, memRead_ie h6, h.ie h6]
  have hram : NamesRam b := by unfold NamesRam; omega
  rw [memRead_namesRam hram, memRead_namesRam hram, hcell]

/-- A stored internal byte changes only the reads that depend on it. -/
theorem memRead_setMemAt_of_not_shows {s : State} (hs : Memory.wf .internal s.bus.mem = true)
    {b : Word} {k : Nat} (h : ¬ ShowsCell b k) (v : Byte) :
    memRead (s.setMemAt k v) b = memRead s b := by
  have hview : SameView b s (s.setMemAt k v) :=
    { SameView.refl b s with
      cell := fun j hj => by
        rw [State.memAt_setMemAt hs, if_neg]
        rintro rfl
        exact h hj }
  exact hview.memRead_eq

/-! ## The address map (R201, R210-R213, R231) -/

theorem sub_echo_toNat {a : Word} (h : 0x2000 ≤ a.toNat) :
    (a - 0x2000#16).toNat = a.toNat - 0x2000 :=
  BitVec.toNat_sub_of_le (by simpa [BitVec.le_def] using h)

theorem bootByte_of_some {s : State} {rom : Vector Byte 256} (hrom : s.cfg.bootRom = some rom)
    {k : Nat} (h : k < 256) : bootByte s k = rom[k] := by
  simp [bootByte, hrom, h]

/-- External RAM that is disabled or absent reads 0xFF and keeps what it has (R213, R231). -/
theorem ext_absent {s : State} {a : Word} (h1 : 0xA000 ≤ a.toNat) (h2 : a.toNat ≤ 0xBFFF)
    (h : s.bus.ramEnable = false ∨ s.bus.nRam ≤ s.bus.ramBank.toNat) (v : Byte) :
    memRead s a = 0xFF#8 ∧ memWrite a v s = s := by
  have hn : ¬ (s.bus.ramEnable = true ∧ s.bus.ramBank.toNat < s.bus.nRam) := by
    rintro ⟨hen, hlt⟩
    rcases h with h | h
    · exact absurd (h.symm.trans hen) (by decide)
    · omega
  rw [memRead_ext h1 h2, memWrite_ext h1 h2, if_neg hn, if_neg hn]
  exact ⟨rfl, rfl⟩

/-- Settles O20, region by region. -/
theorem addressMap : Obligations.AddressMap := by
  intro s a v
  refine ⟨fun h1 h2 => ⟨memRead_hole h1 h2 s, memWrite_hole h1 h2 v s⟩, fun h1 h2 => ?_,
    fun hb rom hrom h => ?_, fun h hb => memRead_rom0 hb (by omega), fun h1 h2 hz hn => ?_,
    fun h1 h2 hn => ?_, fun h1 h2 hen hn => ?_, fun h1 h2 h => ext_absent h1 (by omega) h v⟩
  · have ha := sub_echo_toNat (a := a) (by omega)
    rw [memRead_echo h1 h2, memWrite_echo h1 h2, memRead_wram (by omega) (by omega),
      memWrite_wram (by omega) (by omega), ha]
    exact ⟨rfl, rfl⟩
  · rw [memRead_boot hb (by omega), bootByte_of_some hrom h]
  · have hpos : 1 ≤ s.bus.romBank.toNat :=
      Nat.one_le_iff_ne_zero.mpr fun h => hz (BitVec.eq_of_toNat_eq h)
    rw [memRead_romBank h1 (by omega), if_pos ⟨hpos, hn⟩]
  · rw [memRead_romBank h1 (by omega), if_neg (by omega)]
  · rw [memRead_ext h1 (by omega), if_pos ⟨hen, hn⟩]

/-! ## The banking registers (R241-R245) -/

/-- Masking a byte with its low `n` bits set takes it modulo `2 ^ n`. -/
theorem and_lowMask_toNat (v : Byte) {n m : Nat} (hm : m = 2 ^ n - 1) (hn : m < 256) :
    (v &&& BitVec.ofNat 8 m).toNat = v.toNat % 2 ^ n := by
  rw [BitVec.toNat_and, BitVec.toNat_ofNat, Nat.mod_eq_of_lt hn, hm, Nat.and_two_pow_sub_one_eq_mod]

theorem ramEnable_iff (v : Byte) : v &&& 0x0F#8 = 0x0A#8 ↔ v.toNat % 16 = 0x0A := by
  rw [← BitVec.toNat_inj, and_lowMask_toNat v (n := 4) (m := 0x0F) rfl (by decide)]
  rfl

theorem romBankBits_toNat (v : Byte) :
    ((v &&& 0x1F#8).extractLsb' 0 5).toNat = v.toNat % 32 := by
  rw [BitVec.extractLsb'_toNat, and_lowMask_toNat v (n := 5) (m := 0x1F) rfl (by decide), Nat.shiftRight_zero,
    Nat.mod_mod]
  rfl

theorem romBankWrite_toNat (v : Byte) (s : State) :
    (romBankWrite v s).bus.romBank.toNat = if v.toNat % 32 = 0 then 1 else v.toNat % 32 := by
  have hzero : (v &&& 0x1F#8).extractLsb' 0 5 = 0#5 ↔ v.toNat % 32 = 0 := by
    rw [← BitVec.toNat_inj, romBankBits_toNat]
    rfl
  simp only [romBankWrite, hzero]
  split
  · rfl
  · exact romBankBits_toNat v

theorem ramBankWrite_toNat (v : Byte) (s : State) :
    (ramBankWrite v s).bus.ramBank.toNat = v.toNat % 4 := by
  rw [ramBankWrite, BitVec.extractLsb'_toNat, and_lowMask_toNat v (n := 2) (m := 0x03) rfl (by decide),
    Nat.shiftRight_zero, Nat.mod_mod]
  rfl

/-- Settles O21, range by range. -/
theorem bankingWrites : Obligations.BankingWrites := by
  intro s a v
  refine ⟨fun h => ?_, fun h1 h2 => ?_, fun h1 h2 => ?_, fun h1 h2 =>
    memWrite_ignored h1 (by omega) v s⟩
  · simp only [memWrite_ramEnable (by omega : a.toNat ≤ 0x1FFF), ramEnableWrite, ramEnable_iff]
  · rw [memWrite_romBank h1 (by omega)]
    exact ⟨romBankWrite_toNat v s, rfl⟩
  · rw [memWrite_ramBank h1 (by omega)]
    exact ⟨ramBankWrite_toNat v s, rfl⟩

/-! ## The boot shadow (R232) -/

theorem memWrite_bootReg (v : Byte) (s : State) : memWrite 0xFF50#16 v s = bootWrite v s :=
  memWrite_ioReg s (n := 0x50) (by decide) v

/-- Settles O25: BOOT's write is one-way, and without the shadow the window shows ROM bank 0. -/
theorem bootDisable : Obligations.BootDisable := by
  intro s v
  refine ⟨fun hv hb => ?_, fun h => ?_, fun hb a => Bool.eq_false_iff.mpr fun hon => ?_⟩
  · rw [memWrite_bootReg, bootWrite, if_pos ⟨hv, hb⟩]
    exact ⟨rfl, fun a ha => memRead_rom0 (.inl rfl) (by omega)⟩
  · rw [memWrite_bootReg, bootWrite, if_neg]
    rintro ⟨hv, hb⟩
    rcases h with h | h
    · exact hv h
    · exact absurd (h.symm.trans hb) (by decide)
  · exact absurd (hb.symm.trans (memWrite_bootEnabled a v s hon)) (by decide)

/-! ## The DMA copy (R233) -/

/-- The first `n` bytes of the OAM copy of R233. -/
def oamCopied (src : Word) (n : Nat) (s : State) : State :=
  (List.range n).foldl (oamCopyByte src) s

theorem oamCopy_eq (src : Word) (s : State) : oamCopy src s = oamCopied src 160 s := rfl

theorem oamCopied_succ (src : Word) (n : Nat) (s : State) :
    oamCopied src (n + 1) s = (oamCopied src n s).setMemAt (0xFE00 + n)
      (memRead (oamCopied src n s) (src + BitVec.ofNat 16 n)) := by
  rw [oamCopied, List.range_succ, List.foldl_append]
  rfl

theorem oamCopied_wf (src : Word) (n : Nat) {s : State}
    (hs : Memory.wf .internal s.bus.mem = true) :
    Memory.wf .internal (oamCopied src n s).bus.mem = true := by
  induction n with
  | zero => exact hs
  | succ n ih =>
    rw [oamCopied_succ]
    exact Memory.wf_set .internal _ _ ih

/-- The copy changes only the reads that depend on the bytes copied. -/
theorem memRead_oamCopied_of_not_shows (src : Word) {n : Nat} {s : State}
    (hs : Memory.wf .internal s.bus.mem = true) {b : Word}
    (h : ∀ i < n, ¬ ShowsCell b (0xFE00 + i)) : memRead (oamCopied src n s) b = memRead s b := by
  induction n with
  | zero => rfl
  | succ n ih =>
    rw [oamCopied_succ, memRead_setMemAt_of_not_shows (oamCopied_wf src n hs) (h n n.lt_succ_self),
      ih fun i hi => h i (Nat.lt_succ_of_lt hi)]

/-- Byte `i` of the copy is the byte its source shows, if no earlier byte of the copy reaches it. -/
theorem memAt_oamCopied {src : Word} {n i : Nat} {s : State}
    (hs : Memory.wf .internal s.bus.mem = true) (hi : i < n)
    (h : ∀ j < i, ¬ ShowsCell (src + BitVec.ofNat 16 i) (0xFE00 + j)) :
    (oamCopied src n s).memAt (0xFE00 + i) = memRead s (src + BitVec.ofNat 16 i) := by
  induction n with
  | zero => exact absurd hi (Nat.not_lt_zero i)
  | succ n ih =>
    rw [oamCopied_succ, State.memAt_setMemAt (oamCopied_wf src n hs)]
    by_cases hlast : i = n
    · subst hlast
      rw [if_pos rfl, memRead_oamCopied_of_not_shows src hs h]
    · rw [if_neg (by omega), ih (by omega)]

/-- A write to DMA is the store of the byte and then the copy, if the copy is instant (R233). -/
theorem dmaWrite_eq (v : Byte) (s : State) :
    dmaWrite v s = if s.cfg.oamDma = .instant then oamCopied (zext16 v <<< 8) 160 (s.setIo 0x46 v)
      else s.setIo 0x46 v := by
  cases h : s.cfg.oamDma <;> simp [dmaWrite, h, oamCopy_eq]

theorem memWrite_dma (v : Byte) (s : State) : memWrite 0xFF46#16 v s = dmaWrite v s :=
  memWrite_ioReg s (n := 0x46) (by decide) v

/-- Outside OAM a DMA write is no more than the store of its byte. -/
theorem memRead_dmaWrite_of_not_oam {s : State} (hs : BusOk s.cfg s.bus) {b : Word}
    (h : ¬ (0xFE00 ≤ b.toNat ∧ b.toNat ≤ 0xFE9F)) (v : Byte) :
    memRead (dmaWrite v s) b = memRead (s.setIo 0x46 v) b := by
  rw [dmaWrite_eq]
  split
  · refine memRead_oamCopied_of_not_shows _ (hs.setIo (n := 0x46) (by decide) v).mem_wf ?_
    intro i hi hshow
    simp only [ShowsCell, cellOf] at hshow
    split at hshow <;> omega
  · rfl

/-- A stored I/O byte changes no read but its own, and STAT's for LYC (R142). -/
theorem memRead_setIo_other {s : State} (hs : BusOk s.cfg s.bus) {n : Nat} (hn : n ≤ 0x7F)
    {b : Word} (hb : b.toNat ≠ 0xFF00 + n) (hlyc : n = 0x45 → b.toNat ≠ 0xFF41) (v : Byte) :
    memRead (s.setIo n v) b = memRead s b := by
  refine memRead_setMemAt_of_not_shows hs.mem_wf ?_ v
  simp only [ShowsCell, cellOf]
  split <;> omega

/-- A byte stored in LYC or DMA reads back (R234). -/
theorem memRead_setIo_lycOrDma {s : State} (hs : BusOk s.cfg s.bus) {n : Nat}
    (hn : n = 0x45 ∨ n = 0x46) (v : Byte) :
    memRead (s.setIo n v) (BitVec.ofNat 16 (0xFF00 + n)) = v := by
  rcases hn with rfl | rfl
  all_goals
    rw [memRead_ioReg _ (by decide)]
    exact (State.io_setIo hs.mem_wf _ _ v).trans (if_pos rfl)

theorem memRead_memWrite_dma {s : State} (hs : BusOk s.cfg s.bus) (v : Byte) :
    memRead (memWrite 0xFF46#16 v s) 0xFF46#16 = v := by
  rw [memWrite_dma, memRead_dmaWrite_of_not_oam hs (by decide)]
  exact memRead_setIo_lycOrDma hs (.inr rfl) v

/-- The source address of byte `i` of the copy: no address wraps (R233). -/
theorem dmaSource_toNat (v : Byte) {i : Nat} (hi : i < 160) :
    (zext16 v <<< 8 + BitVec.ofNat 16 i).toNat = v.toNat * 256 + i := by
  have hv := v.isLt
  rw [BitVec.toNat_add, BitVec.toNat_shiftLeft, zext16_toNat, BitVec.toNat_ofNat,
    Nat.shiftLeft_eq]
  omega

theorem dmaSource_eq (v : Byte) {i : Nat} (hi : i < 160) :
    zext16 v <<< 8 + BitVec.ofNat 16 i = BitVec.ofNat 16 (v.toNat * 256 + i) := by
  have hv := v.isLt
  apply BitVec.eq_of_toNat_eq
  rw [dmaSource_toNat v hi, BitVec.toNat_ofNat]
  omega

/-- What the copy reads: the memory before the write, but for DMA itself, which holds `v` by then. -/
theorem memRead_setIo_dma {s : State} (hs : BusOk s.cfg s.bus) (v : Byte) (b : Word) :
    memRead (s.setIo 0x46 v) b = if b.toNat = 0xFF46 then v else memRead s b := by
  split
  · next h =>
    obtain rfl : b = 0xFF46#16 := BitVec.eq_of_toNat_eq h
    exact memRead_setIo_lycOrDma hs (.inr rfl) v
  · next h => exact memRead_setIo_other hs (by decide) h (fun hn => absurd hn (by decide)) v

theorem oamAddr_toNat {i : Nat} (hi : i < 160) : (BitVec.ofNat 16 (0xFE00 + i)).toNat = 0xFE00 + i := by
  rw [BitVec.toNat_ofNat]
  omega

theorem memRead_oamAddr (s : State) {i : Nat} (hi : i < 160) :
    memRead s (BitVec.ofNat 16 (0xFE00 + i)) = s.memAt (0xFE00 + i) := by
  have ha := oamAddr_toNat hi
  rw [memRead_oam (by omega) (by omega), ha]

/-- Settles O24: byte `i` of the copy is read before any byte it could show is overwritten. -/
theorem oamDma : Obligations.OamDma := by
  intro s v hs
  refine ⟨memRead_memWrite_dma hs v, fun i hi => ?_⟩
  have hsrc := dmaSource_toNat v hi
  rw [memWrite_dma, dmaWrite_eq]
  split
  · rw [memRead_oamAddr _ hi, memAt_oamCopied (hs.setIo (n := 0x46) (by decide) v).mem_wf hi,
      memRead_setIo_dma hs, hsrc, dmaSource_eq v hi]
    intro j hj hshow
    simp only [ShowsCell, cellOf, hsrc] at hshow
    split at hshow <;> omega
  · rw [memRead_setIo_dma hs, if_neg]
    rw [oamAddr_toNat hi]
    omega

/-! ## The reach of a write (R212, R230, R234, R263) -/

theorem writeReach_ramEnable {a : Word} (h : a.toNat ≤ 0x1FFF) (b : Word) :
    writeReach a b = decide (0xA000 ≤ b.toNat ∧ b.toNat ≤ 0xBFFF) := by
  simp only [writeReach]
  rw [if_pos h]

theorem writeReach_romBank {a : Word} (h1 : 0x2000 ≤ a.toNat) (h2 : a.toNat ≤ 0x3FFF) (b : Word) :
    writeReach a b = decide (0x4000 ≤ b.toNat ∧ b.toNat ≤ 0x7FFF) := by
  simp only [writeReach]
  rw [if_neg (by omega), if_pos h2]

theorem writeReach_ramBank {a : Word} (h1 : 0x4000 ≤ a.toNat) (h2 : a.toNat ≤ 0x5FFF) (b : Word) :
    writeReach a b = decide (0xA000 ≤ b.toNat ∧ b.toNat ≤ 0xBFFF) := by
  simp only [writeReach]
  repeat rw [if_neg (by omega)]
  rw [if_pos h2]

theorem writeReach_vramOrExt {a : Word} (h1 : 0x8000 ≤ a.toNat) (h2 : a.toNat ≤ 0xBFFF) (b : Word) :
    writeReach a b = decide (b.toNat = a.toNat) := by
  simp only [writeReach]
  repeat rw [if_neg (by omega)]
  rw [if_pos h2]

theorem writeReach_wram {a : Word} (h1 : 0xC000 ≤ a.toNat) (h2 : a.toNat ≤ 0xDFFF) (b : Word) :
    writeReach a b =
      decide (b.toNat = a.toNat ∨ (b.toNat = a.toNat + 0x2000 ∧ b.toNat ≤ 0xFDFF)) := by
  simp only [writeReach]
  repeat rw [if_neg (by omega)]
  rw [if_pos h2]

theorem writeReach_echo {a : Word} (h1 : 0xE000 ≤ a.toNat) (h2 : a.toNat ≤ 0xFDFF) (b : Word) :
    writeReach a b = decide (b.toNat = a.toNat ∨ b.toNat + 0x2000 = a.toNat) := by
  simp only [writeReach]
  repeat rw [if_neg (by omega)]
  rw [if_pos h2]

theorem writeReach_oam {a : Word} (h1 : 0xFE00 ≤ a.toNat) (h2 : a.toNat ≤ 0xFE9F) (b : Word) :
    writeReach a b = decide (b.toNat = a.toNat) := by
  simp only [writeReach]
  repeat rw [if_neg (by omega)]
  rw [if_pos h2]

/-- Above the hole a write reaches its own byte, but for LY, LYC, DMA and BOOT. -/
theorem writeReach_ioOrHram {a : Word} (h1 : 0xFF00 ≤ a.toNat) (hly : a.toNat ≠ 0xFF44)
    (hlyc : a.toNat ≠ 0xFF45) (hdma : a.toNat ≠ 0xFF46) (hboot : a.toNat ≠ 0xFF50) (b : Word) :
    writeReach a b = decide (b.toNat = a.toNat) := by
  simp only [writeReach]
  repeat rw [if_neg (by omega)]

/-- Two addresses that show one byte of RAM are the same or a byte of work RAM and its echo (R212). -/
theorem shows_cellOf_cases {a b : Word} (ha : NamesRam a) (h : ShowsCell b (cellOf a)) :
    b.toNat = a.toNat ∨
      (0xC000 ≤ a.toNat ∧ a.toNat ≤ 0xDDFF ∧ b.toNat = a.toNat + 0x2000) ∨
      (0xE000 ≤ a.toNat ∧ a.toNat ≤ 0xFDFF ∧ b.toNat + 0x2000 = a.toNat) := by
  unfold NamesRam at ha
  simp only [ShowsCell, cellOf] at h
  split at h <;> split at h <;> omega

/-- A write to RAM reaches every address whose reads depend on the byte it stores. -/
theorem writeReach_of_shows {a b : Word} (ha : NamesRam a) (h : ShowsCell b (cellOf a)) :
    writeReach a b = true := by
  have hab := shows_cellOf_cases ha h
  unfold NamesRam at ha
  by_cases hvram : a.toNat ≤ 0x9FFF
  · rw [writeReach_vramOrExt (by omega) (by omega), decide_eq_true_iff]
    omega
  by_cases hwram : a.toNat ≤ 0xDFFF
  · rw [writeReach_wram (by omega) hwram, decide_eq_true_iff]
    omega
  by_cases hecho : a.toNat ≤ 0xFDFF
  · rw [writeReach_echo (by omega) hecho, decide_eq_true_iff]
    omega
  by_cases hoam : a.toNat ≤ 0xFE9F
  · rw [writeReach_oam (by omega) hoam, decide_eq_true_iff]
    omega
  · rw [writeReach_ioOrHram (by omega) (by omega) (by omega) (by omega) (by omega),
      decide_eq_true_iff]
    omega

/-- A write to RAM changes no read out of its reach. -/
theorem memRead_memWrite_ram {s : State} (hs : BusOk s.cfg s.bus) {a b : Word} (ha : NamesRam a)
    (h : writeReach a b = false) (v : Byte) : memRead (memWrite a v s) b = memRead s b := by
  rw [memWrite_namesRam ha]
  refine memRead_setMemAt_of_not_shows hs.mem_wf (fun hshow => ?_) v
  exact absurd (h.symm.trans (writeReach_of_shows ha hshow)) (by decide)

/-- A write to external RAM changes no read but that of its own address (R213, R231). -/
theorem memRead_memWrite_ext {s : State} (hs : BusOk s.cfg s.bus) {a b : Word}
    (h1 : 0xA000 ≤ a.toNat) (h2 : a.toNat ≤ 0xBFFF) (hne : b.toNat ≠ a.toNat) (v : Byte) :
    memRead (memWrite a v s) b = memRead s b := by
  rw [memWrite_ext h1 h2]
  split
  · have hview : SameView b s (s.setExtAt s.bus.ramBank.toNat (a.toNat - 0xA000) v) :=
      { SameView.refl b s with
        ext := fun h3 h4 => by rw [State.extAt_setExtAt hs.ext_wf, if_neg (by omega)] }
    exact hview.memRead_eq
  · rfl

/-- A banking write changes no read outside the window it selects (R241-R244). -/
theorem memRead_memWrite_banking {s : State} {a b : Word} (ha : a.toNat ≤ 0x7FFF)
    (h : writeReach a b = false) (v : Byte) : memRead (memWrite a v s) b = memRead s b := by
  by_cases h0 : a.toNat ≤ 0x1FFF
  · rw [writeReach_ramEnable h0, decide_eq_false_iff_not] at h
    have hview : SameView b s (ramEnableWrite v s) :=
      { SameView.refl b s with ramEnable := fun h1 h2 => absurd ⟨h1, h2⟩ h }
    rw [memWrite_ramEnable h0, hview.memRead_eq]
  by_cases h1 : a.toNat ≤ 0x3FFF
  · rw [writeReach_romBank (by omega) h1, decide_eq_false_iff_not] at h
    have hview : SameView b s (romBankWrite v s) :=
      { SameView.refl b s with romBank := fun h1 h2 => absurd ⟨h1, h2⟩ h }
    rw [memWrite_romBank (by omega) h1, hview.memRead_eq]
  by_cases h2 : a.toNat ≤ 0x5FFF
  · rw [writeReach_ramBank (by omega) h2, decide_eq_false_iff_not] at h
    have hview : SameView b s (ramBankWrite v s) :=
      { SameView.refl b s with
        ramBank := fun h1 h2 => absurd ⟨h1, h2⟩ h
        ext := fun h1 h2 => absurd ⟨h1, h2⟩ h }
    rw [memWrite_ramBank (by omega) h2, hview.memRead_eq]
  · rw [memWrite_ignored (by omega) ha]

/-- A write to BOOT changes no read above the boot shadow (R232). -/
theorem memRead_bootWrite {s : State} {b : Word} (hb : 0x00FF < b.toNat) (v : Byte) :
    memRead (bootWrite v s) b = memRead s b := by
  rw [bootWrite]
  split
  · have hview : SameView b s { s with bus := { s.bus with bootEnabled := false } } :=
      { SameView.refl b s with boot := fun h => absurd h (by omega) }
    exact hview.memRead_eq
  · rfl

/-- A write to an I/O register other than LY, DMA and BOOT stores some byte in it (R234). -/
theorem ioWrite_stores {n : Nat} (hly : n ≠ 0x44) (hdma : n ≠ 0x46) (hboot : n ≠ 0x50) (v : Byte)
    (s : State) : ∃ w, ioWrite n v s = s.setIo n w := by
  by_cases hif : n = 0x0F
  · exact ⟨_, by rw [ioWrite, if_pos hif, hif]⟩
  by_cases hstat : n = 0x41
  · exact ⟨_, by rw [ioWrite, if_neg hif, if_pos hstat, hstat]⟩
  · exact ⟨v, by rw [ioWrite, if_neg hif, if_neg hstat, if_neg hly, if_neg hdma, if_neg hboot]⟩

/-- A write to an I/O register changes no read out of its reach (R234). -/
theorem memRead_memWrite_io {s : State} (hs : BusOk s.cfg s.bus) {a b : Word}
    (h1 : 0xFF00 ≤ a.toNat) (h2 : a.toNat ≤ 0xFF7F) (h : writeReach a b = false) (v : Byte) :
    memRead (memWrite a v s) b = memRead s b := by
  by_cases hly : a.toNat = 0xFF44
  · obtain rfl : a = 0xFF44#16 := BitVec.eq_of_toNat_eq hly
    rw [memWrite_ly]
  by_cases hdma : a.toNat = 0xFF46
  · obtain rfl : a = 0xFF46#16 := BitVec.eq_of_toNat_eq hdma
    have hb : ¬ (b.toNat = 0xFF46 ∨ (0xFE00 ≤ b.toNat ∧ b.toNat ≤ 0xFE9F)) := of_decide_eq_false h
    rw [memWrite_dma, memRead_dmaWrite_of_not_oam hs (fun hoam => hb (.inr hoam)),
      memRead_setIo_dma hs, if_neg (fun hself => hb (.inl hself))]
  by_cases hboot : a.toNat = 0xFF50
  · obtain rfl : a = 0xFF50#16 := BitVec.eq_of_toNat_eq hboot
    have hb : ¬ b.toNat ≤ 0x00FF := of_decide_eq_false h
    rw [memWrite_bootReg, memRead_bootWrite (by omega)]
  obtain ⟨w, hw⟩ := ioWrite_stores (n := a.toNat - 0xFF00) (by omega) (by omega) (by omega) v s
  have hb : b.toNat ≠ a.toNat ∧ (a.toNat = 0xFF45 → b.toNat ≠ 0xFF41) := by
    by_cases hlyc : a.toNat = 0xFF45
    · obtain rfl : a = 0xFF45#16 := BitVec.eq_of_toNat_eq hlyc
      have hb : ¬ (b.toNat = 0xFF45 ∨ b.toNat = 0xFF41) := of_decide_eq_false h
      exact ⟨fun hself => hb (.inl hself), fun _ hstat => hb (.inr hstat)⟩
    · rw [writeReach_ioOrHram h1 hly hlyc hdma hboot, decide_eq_false_iff_not] at h
      exact ⟨h, fun hc => absurd hc hlyc⟩
  obtain ⟨hself, hstat⟩ := hb
  rw [memWrite_io h1 h2, hw]
  exact memRead_setIo_other hs (by omega) (by omega) (fun hn => hstat (by omega)) w

/-- A write leaves every address out of its reach reading as before (R230). -/
theorem memRead_memWrite_of_not_reach {s : State} (hs : BusOk s.cfg s.bus) {a b : Word}
    (h : writeReach a b = false) (v : Byte) : memRead (memWrite a v s) b = memRead s b := by
  have hlt := a.isLt
  by_cases hbank : a.toNat ≤ 0x7FFF
  · exact memRead_memWrite_banking hbank h v
  by_cases hext : 0xA000 ≤ a.toNat ∧ a.toNat ≤ 0xBFFF
  · obtain ⟨h1, h2⟩ := hext
    rw [writeReach_vramOrExt (by omega) h2, decide_eq_false_iff_not] at h
    exact memRead_memWrite_ext hs h1 h2 h v
  by_cases hhole : 0xFEA0 ≤ a.toNat ∧ a.toNat ≤ 0xFEFF
  · rw [memWrite_hole hhole.1 hhole.2]
  by_cases hio : 0xFF00 ≤ a.toNat ∧ a.toNat ≤ 0xFF7F
  · exact memRead_memWrite_io hs hio.1 hio.2 h v
  by_cases hie : a.toNat = 0xFFFF
  · rw [writeReach_ioOrHram (by omega) (by omega) (by omega) (by omega) (by omega),
      decide_eq_false_iff_not] at h
    have hview : SameView b s { s with bus := { s.bus with ie := v } } :=
      { SameView.refl b s with ie := fun hb => absurd (hb.trans hie.symm) h }
    rw [memWrite_ie hie, hview.memRead_eq]
  · exact memRead_memWrite_ram hs (by unfold NamesRam; omega) h v

/-- A byte written where it is stored reads back (R230, R234). -/
theorem memRead_memWrite_of_storesByte {s : State} (hs : BusOk s.cfg s.bus) {a : Word}
    (h : storesByte s a = true) (v : Byte) : memRead (memWrite a v s) a = v := by
  rw [storesByte, Bool.or_eq_true, Bool.or_eq_true, decide_eq_true_iff, decide_eq_true_iff] at h
  rcases h with (h | rfl) | rfl
  · obtain ⟨p, hp⟩ := Option.isSome_iff_exists.mp h
    rw [memRead_memWrite_plain hs hp, if_pos hp]
  · rw [memWrite_ioReg s (n := 0x45) (by decide)]
    exact memRead_setIo_lycOrDma hs (.inl rfl) v
  · exact memRead_memWrite_dma hs v

/-- Settles O23: the law of plain storage, the read-back of LYC and DMA, and the reach of a write. -/
theorem memWrite_reach : Obligations.WriteReach := fun _ _ v hs =>
  ⟨fun _ hp b => memRead_memWrite_plain hs hp v b, fun h => memRead_memWrite_of_storesByte hs h v,
    fun _ h => memRead_memWrite_of_not_reach hs h v⟩

/-! ## Loading a cartridge (R250-R253) -/

/-- The image from offset `n` on as cells of cartridge ROM (R251). -/
def romCellsFrom (n : Nat) (image : List Byte) : List Host.Cell :=
  ((image.zipIdx n).map fun p => (p.2, p.1)).filter fun c => decide (c.2 ≠ 0xFF#8)

theorem romCells_eq (image : List Byte) : romCells image = romCellsFrom 0 image := rfl

theorem romCellsFrom_cons (n : Nat) (b : Byte) (image : List Byte) :
    romCellsFrom n (b :: image) =
      if b = 0xFF#8 then romCellsFrom (n + 1) image else (n, b) :: romCellsFrom (n + 1) image := by
  by_cases hb : b = 0xFF#8 <;> simp [romCellsFrom, List.zipIdx_cons, hb]

theorem romCellsFrom_wf (n : Nat) (image : List Byte) :
    Cells.wfFrom (unlisted .cartRom) n (romCellsFrom n image) = true := by
  induction image generalizing n with
  | nil => rfl
  | cons b image ih =>
    rw [romCellsFrom_cons]
    split
    · exact Cells.wfFrom_mono n.le_succ (ih (n + 1))
    · next hb => exact Cells.wfFrom_cons.mpr ⟨Nat.le_refl n, hb, ih (n + 1)⟩

/-- The cells read as the image, and 0xFF past its end (R251). -/
theorem get_romCellsFrom (n : Nat) (image : List Byte) (o : Nat) :
    Cells.get (unlisted .cartRom) (romCellsFrom n image) (n + o) = image.getD o 0xFF#8 := by
  induction image generalizing n o with
  | nil => rfl
  | cons b image ih =>
    have hrest := romCellsFrom_wf (n + 1) image
    rw [romCellsFrom_cons]
    cases o with
    | zero =>
      rw [Nat.add_zero n]
      split
      · next hb => exact (Cells.get_of_lt n.lt_succ_self hrest).trans hb.symm
      · exact if_pos rfl
    | succ o =>
      have hnext := ih (n + 1) o
      rw [show n + 1 + o = n + (o + 1) by omega] at hnext
      split
      · exact hnext
      · rw [Cells.get, if_neg (by omega), if_neg (by omega)]
        exact hnext

theorem romCellsFrom_keys (n : Nat) (image : List Byte) :
    ∀ c ∈ romCellsFrom n image, c.1 < n + image.length := by
  induction image generalizing n with
  | nil => exact fun c hc => absurd hc List.not_mem_nil
  | cons b image ih =>
    have hrest : ∀ c ∈ romCellsFrom (n + 1) image, c.1 < n + (b :: image).length := fun c hc => by
      have hc := ih (n + 1) c hc
      rw [List.length_cons]
      omega
    rw [romCellsFrom_cons]
    split
    · exact hrest
    · exact List.forall_mem_cons.mpr ⟨by simp, hrest⟩

/-- The state after a successful `load_rom` of an image (R250). -/
def romLoaded (image : List Byte) (s : State) : State :=
  { s with bus := { s.bus with
    rom := romCells image
    nRom := romBankCount image.length
    nRam := ramBankCount s.cfg image
    ext := extCells s.cfg (ramBankCount s.cfg image) } }

theorem loadRom_some (image : List Byte) (s : State) :
    loadRom (some image) s = .next (romLoaded image s) := rfl

theorem romLoaded_romAt (image : List Byte) (s : State) (o : Nat) :
    (romLoaded image s).romAt o = image.getD o 0xFF#8 := by
  have h := get_romCellsFrom 0 image o
  rwa [Nat.zero_add] at h

/-- The integer form of N (R251). -/
theorem romBankCount_eq (size : Nat) :
    (romBankCount size : Int) = max 0 (((size : Int) - 16384 + 16383) / 16384) := by
  rw [romBankCount]
  omega

/-- The image fits in the banks counted for it. -/
theorem le_romBankCount (size : Nat) : size ≤ 16384 * (romBankCount size + 1) := by
  rw [romBankCount]
  omega

theorem ramBankCount_of_short {image : List Byte} (h : image.length ≤ 0x0149) (c : Config) :
    ramBankCount c image = 0 :=
  if_neg (by omega)

theorem ramBankCount_of_header {image : List Byte} (h : 0x0149 < image.length) (c : Config) :
    ramBankCount c image = ramBanksOf c image[0x0149] := by
  rw [ramBankCount, if_pos h, List.getD_eq_getElem _ _ h]

/-- An external RAM byte that `P_RAM_INIT` names once, within the banks, holds what it gives (R252). -/
theorem romLoaded_extAt {image : List Byte} {s : State}
    (hn : (s.cfg.extRamInit.map Prod.fst).Nodup) {k : Nat} {v : Byte}
    (hv : (k, v) ∈ s.cfg.extRamInit) (hk : k < 8192 * (romLoaded image s).bus.nRam) :
    (romLoaded image s).extAt (k / 8192) (k % 8192) = v := by
  rw [State.extAt, Nat.div_add_mod]
  refine get_storeAll_of_listed rfl (List.mem_filter.mpr ⟨hv, decide_eq_true hk⟩) fun x hx hxk => ?_
  obtain rfl : x = (k, v) := List.inj_on_of_nodup_map hn (List.mem_filter.mp hx).1 hv hxk
  rfl

theorem BusOk.romLoaded {s : State} (h : BusOk s.cfg s.bus) (image : List Byte) :
    BusOk (romLoaded image s).cfg (romLoaded image s).bus :=
  { h with
    rom_wf := romCellsFrom_wf 0 image
    ext_wf := storeAll_wf rfl _
    rom_keys := fun c hc => by
      have hkey := romCellsFrom_keys 0 image c hc
      have hfit := le_romBankCount image.length
      rw [Nat.zero_add] at hkey
      exact Nat.lt_of_lt_of_le hkey hfit
    ext_keys := storeAll_keys (fun k => k < 8192 * ramBankCount s.cfg image)
      (fun _ hc => absurd hc List.not_mem_nil)
      fun _ hc => of_decide_eq_true (List.mem_filter.mp hc).2 }

/-- Settles O26: the state after a successful load is `romLoaded`. -/
theorem loadRom_outcome : Obligations.LoadRom := by
  refine fun s => ⟨rfl, fun image => ⟨romLoaded image s, loadRom_some image s,
    romLoaded_romAt image s, romBankCount_eq image.length, fun h => ramBankCount_of_short h s.cfg,
    fun h => ?_, fun hn _ _ hv hk => romLoaded_extAt hn hv hk, rfl,
    fun h => ⟨h.bus.romLoaded image, h.ppu, h.cpu⟩⟩⟩
  exact ramBankCount_of_header h s.cfg

/-! ## What a PPU tick leaves of memory (R202, R1150) -/

/-- Everything a tick can do: what each update of the PPU and each request of VBlank or STAT keeps,
it keeps. -/
theorem ppuTick_keeps {P : State → Prop} (d : Nat) {s : State} (h0 : P s)
    (hppu : ∀ (t : State) (p : Ppu), P t → P { t with ppu := p })
    (hreq : ∀ t k, k < 2 → P t → P (request k t)) : P (ppuTick d s) := by
  have hline : ∀ t, P t → P (crossLine t) := fun t ht => by
    have hentered : P (lineEntered t) := by
      rw [lineEntered_frame]
      exact hppu t _ ht
    rw [crossLine_eq]
    exact iteInduction (motive := P) (fun _ => hreq _ 0 (by decide) hentered) (fun _ => hentered)
  have hlines : ∀ n t, P t → P (crossLines n t) := fun n => by
    induction n with
    | zero => exact fun _ ht => ht
    | succ n ih => exact fun t ht => ih (crossLine t) (hline t ht)
  have hstat : ∀ t, P t → P (updateStatLine t) := fun t ht => by
    simp only [updateStatLine]
    exact hppu _ _ (iteInduction (motive := P) (fun _ => hreq t 1 (by decide) ht) (fun _ => ht))
  by_cases hon : (s.io 0x40).getLsbD 7 = true
  · rw [ppuTick_on hon]
    exact hstat _ (hppu _ _ (hlines _ _ (hppu s _ h0)))
  · rw [ppuTick_off (by simpa using hon)]
    exact h0

/-- Internal storage of `t` is that of `s` but for the VBlank and STAT requests in IF. -/
structure OnlyRequests (s t : State) : Prop where
  mem_wf : Memory.wf .internal t.bus.mem = true
  cell : ∀ k, k ≠ 0xFF0F → t.memAt k = s.memAt k
  bits : ∀ j, 2 ≤ j → (t.io 0x0F).getLsbD j = (s.io 0x0F).getLsbD j

/-- Requesting source `k` changes no other bit of IF (R1105). -/
theorem request_getLsbD_of_ne {s : State} (hs : Memory.wf .internal s.bus.mem = true) {k j : Nat}
    (h : j ≠ k) : ((request k s).io 0x0F).getLsbD j = (s.io 0x0F).getLsbD j := by
  have hbit : (1#8 <<< k).getLsbD j = false := by
    simp only [BitVec.getLsbD_shiftLeft, BitVec.getLsbD_one]
    by_cases hjk : j < k
    · simp [hjk]
    · simp [show j - k ≠ 0 by omega]
  rw [request, State.io_setIo hs, if_pos rfl, BitVec.getLsbD_or, hbit, Bool.or_false]

theorem OnlyRequests.request {s t : State} (h : OnlyRequests s t) {k : Nat} (hk : k < 2) :
    OnlyRequests s (request k t) where
  mem_wf := Memory.wf_set .internal _ _ h.mem_wf
  cell j hj := ((State.memAt_setMemAt h.mem_wf _ _ _).trans (if_neg hj)).trans (h.cell j hj)
  bits j hj := (request_getLsbD_of_ne h.mem_wf (by omega)).trans (h.bits j hj)

theorem ppuTick_onlyRequests {s : State} (hs : Memory.wf .internal s.bus.mem = true) (d : Nat) :
    OnlyRequests s (ppuTick d s) :=
  ppuTick_keeps d ⟨hs, fun _ _ => rfl, fun _ _ => rfl⟩ (fun _ _ h => { h with })
    fun _ _ hk h => h.request hk

theorem OnlyRequests.memRead_if_getLsbD {s t : State} (h : OnlyRequests s t) {j : Nat}
    (hj : 2 ≤ j) :
    (memRead t 0xFF0F#16).getLsbD j = (memRead s 0xFF0F#16).getLsbD j := by
  simp only [memRead_if, BitVec.getLsbD_or, BitVec.getLsbD_and, h.bits j hj]

/-- A read of any address but IF, STAT and LY after a tick (R202). -/
theorem memRead_ppuTick {s : State} (hs : Memory.wf .internal s.bus.mem = true) (d : Nat)
    {a : Word} (hif : a ≠ 0xFF0F#16) (hstat : a ≠ 0xFF41#16) (hly : a ≠ 0xFF44#16) :
    memRead (ppuTick d s) a = memRead s a := by
  obtain ⟨m, hbus⟩ := ppuTick_onlyMem d s
  have hcell := (ppuTick_onlyRequests hs d).cell
  have hne : ∀ {b : Word}, a ≠ b → a.toNat ≠ b.toNat := fun h heq => h (BitVec.eq_of_toNat_eq heq)
  have hview : SameView a s (ppuTick d s) :=
    { cfg := (ppuTick_frame d s).1
      rom := by rw [hbus]
      nRom := by rw [hbus]
      nRam := by rw [hbus]
      boot := fun _ => by rw [hbus]
      romBank := fun _ _ => by rw [hbus]
      ramEnable := fun _ _ => by rw [hbus]
      ramBank := fun _ _ => by rw [hbus]
      ext := fun _ _ => by rw [State.extAt, hbus]; rfl
      cell := fun k hk => hcell k fun hkif => by
        have hn : a.toNat ≠ 0xFF0F := hne hif
        simp only [ShowsCell, cellOf] at hk
        split at hk <;> omega
      ppu := fun h => absurd h (not_or.mpr ⟨hne hstat, hne hly⟩)
      ie := fun _ => by rw [hbus] }
  exact hview.memRead_eq

/-- Settles O30: a tick's only effect on memory is its requests in IF; LY and STAT are seen live. -/
theorem ppuTickKeeps : Obligations.PpuTickKeeps := by
  intro s d
  obtain ⟨hcfg, hcpu, hlog, hcycles, -⟩ := ppuTick_frame d s
  obtain ⟨m, hbus⟩ := ppuTick_onlyMem d s
  refine ⟨hcpu, hcfg, hlog, hcycles, by rw [hbus], fun hs => ⟨fun j hj => ?_, fun a => ?_⟩⟩
  · exact (ppuTick_onlyRequests hs.mem_wf d).memRead_if_getLsbD hj
  · exact memRead_ppuTick hs.mem_wf d

end Sys2Proof.Machine
end

section
/-!
PROOFS. The encoding and what goes with it: the opcode map as one function of the opcode byte and
its operand word, the round trips, the instruction a step fetches and runs, and the machine cycles
and flags of every row of the table.
-/

namespace Sys2Proof

/-! ## The opcode map as one function of the opcode byte and its operand (R300, R313-R315, R322) -/

/-- The instruction a pattern makes of the operand word `v`; an operand byte is its low byte
(R260). -/
def Pattern.instr (p : Pattern) (v : Word) : Instr :=
  match p with
  | .whole i => i
  | .withByte mk => mk (loByte v)
  | .withWord mk => mk v
  | .cbPrefix => decodeCb (loByte v)

/-- The bytes that follow the opcode byte when the operand word is `v` (R300). -/
def Pattern.operandBytes (p : Pattern) (v : Word) : List Byte :=
  match p with
  | .whole _ => []
  | .withByte _ | .cbPrefix => [loByte v]
  | .withWord _ => [loByte v, hiByte v]

/-- The length in bytes that the opcode byte alone fixes (R322). -/
def Pattern.length (p : Pattern) : Nat :=
  match p with
  | .whole _ => 1
  | .withByte _ | .cbPrefix => 2
  | .withWord _ => 3

theorem Pattern.length_operandBytes (p : Pattern) (v : Word) :
    (p.operandBytes v).length + 1 = p.length := by
  cases p <;> rfl

theorem Pattern.length_bounds (p : Pattern) : 1 ≤ p.length ∧ p.length ≤ 3 := by
  cases p <;> simp [Pattern.length]

/-- Two bytes in memory order begin with the operand bytes of the word they make (R260). -/
theorem Pattern.operandBytes_append_drop (p : Pattern) (x y : Byte) (rest : List Byte) :
    p.operandBytes (joinBytes y x) ++ (x :: y :: rest).drop (p.length - 1) = x :: y :: rest := by
  cases p <;> simp [Pattern.operandBytes, Pattern.length]

theorem decode_operandBytes (op : Byte) (v : Word) (rest : List Byte) :
    decode (op :: (decodeOpcode op).operandBytes v ++ rest) =
      .ok ((decodeOpcode op).instr v, rest) := by
  cases h : decodeOpcode op <;> simp [decode, h, Pattern.operandBytes, Pattern.instr]

/-- Three bytes always decode, by the opcode byte's pattern (R321, R322). -/
theorem decode_three (op x y : Byte) (rest : List Byte) :
    decode (op :: x :: y :: rest) =
      .ok ((decodeOpcode op).instr (joinBytes y x),
        (x :: y :: rest).drop ((decodeOpcode op).length - 1)) := by
  rw [← decode_operandBytes, List.cons_append, Pattern.operandBytes_append_drop]

/-- What decodes is an opcode byte, the operand bytes its pattern asks for, and the rest. -/
theorem decode_ok_cases {bytes rest : List Byte} {i : Instr} (h : decode bytes = .ok (i, rest)) :
    ∃ op v, bytes = op :: (decodeOpcode op).operandBytes v ++ rest ∧
      i = (decodeOpcode op).instr v := by
  match bytes with
  | [] => cases h
  | op :: tail =>
    refine ⟨op, joinBytes (tail.getD 1 0x00#8) (tail.getD 0 0x00#8), ?_⟩
    simp only [decode] at h
    split at h
    next j hp =>
      cases h
      simp [hp, Pattern.operandBytes, Pattern.instr]
    all_goals
      rename_i hp
      split at h
      · cases h
        simp [hp, Pattern.operandBytes, Pattern.instr]
      · cases h

theorem encode_decodeCb : ∀ op2 : Byte, encode (decodeCb op2) = encCb op2 := by decide

/-- The map and the grid agree: byte by byte, an instruction is encoded as the opcode byte whose
pattern makes it, then its operand bytes (R313, R315). 0xCB is the prefix. -/
theorem encode_instr (op : Byte) (v : Word) :
    encode ((decodeOpcode op).instr v) = op :: (decodeOpcode op).operandBytes v := by
  obtain ⟨n, hn, rfl⟩ : ∃ n < 256, op = BitVec.ofNat 8 n := ⟨op.toNat, op.isLt, by simp⟩
  rcases Nat.lt_trichotomy n 0xCB with hlt | rfl | hgt
  · interval_cases n <;> rfl
  · exact encode_decodeCb (loByte v)
  · interval_cases n <;> rfl

/-- Settles O1: a row with an operand word puts its two bytes together again; every other row is a
computation. -/
theorem decodeEncode : Obligations.DecodeEncode := by
  intro i rest
  cases i with
  | ldBcD16 v => exact Laws.RoundTrip.ldBcD16 v rest
  | ldDeD16 v => exact Laws.RoundTrip.ldDeD16 v rest
  | ldHlD16 v => exact Laws.RoundTrip.ldHlD16 v rest
  | ldSpD16 v => exact Laws.RoundTrip.ldSpD16 v rest
  | ldAtA16Sp a => exact Laws.RoundTrip.ldAtA16Sp a rest
  | ldAtA16A a => exact Laws.RoundTrip.ldAtA16A a rest
  | ldAAtA16 a => exact Laws.RoundTrip.ldAAtA16 a rest
  | jpA16 a => exact Laws.RoundTrip.jpA16 a rest
  | jpNzA16 a => exact Laws.RoundTrip.jpNzA16 a rest
  | jpZA16 a => exact Laws.RoundTrip.jpZA16 a rest
  | jpNcA16 a => exact Laws.RoundTrip.jpNcA16 a rest
  | jpCA16 a => exact Laws.RoundTrip.jpCA16 a rest
  | callA16 a => exact Laws.RoundTrip.callA16 a rest
  | callNzA16 a => exact Laws.RoundTrip.callNzA16 a rest
  | callZA16 a => exact Laws.RoundTrip.callZA16 a rest
  | callNcA16 a => exact Laws.RoundTrip.callNcA16 a rest
  | callCA16 a => exact Laws.RoundTrip.callCA16 a rest
  | _ => rfl

/-- Settles O2: what decodes is what the map's row at its first byte encodes. -/
theorem encodeDecode : Obligations.EncodeDecode := by
  intro bytes rest i h
  obtain ⟨op, v, rfl, rfl⟩ := decode_ok_cases h
  rw [encode_instr]

/-- The bytes that encode no instruction (R320). -/
def noInstrBytes : List Byte :=
  [0xD3#8, 0xDB#8, 0xDD#8, 0xE3#8, 0xE4#8, 0xEB#8, 0xEC#8, 0xED#8, 0xF4#8, 0xFC#8, 0xFD#8]

/-- The unused rows are those whose first byte is unused (R320). -/
theorem wellFormed_eq (i : Instr) :
    i.wellFormed = !noInstrBytes.contains ((encode i).headD 0x00#8) := by
  cases i <;> rfl

theorem length_instr (op : Byte) (v : Word) :
    ((decodeOpcode op).instr v).length = (decodeOpcode op).length := by
  rw [Instr.length, encode_instr, List.length_cons, Pattern.length_operandBytes]

theorem one_le_length_of_decode {bytes rest : List Byte} {i : Instr}
    (h : decode bytes = .ok (i, rest)) : 1 ≤ i.length := by
  obtain ⟨op, v, -, rfl⟩ := decode_ok_cases h
  rw [length_instr]
  exact (decodeOpcode op).length_bounds.1

/-- Settles O3: the length is the pattern's, and the row is judged by its first byte. -/
theorem decodeTotal : Obligations.DecodeTotal := by
  intro op
  obtain ⟨hpos, hle⟩ := (decodeOpcode op).length_bounds
  refine ⟨(decodeOpcode op).length, hpos, hle, fun hcb => by rw [hcb]; rfl, fun x y rest => ?_⟩
  refine ⟨_, decode_three op x y rest, length_instr op _, ?_⟩
  rw [wellFormed_eq, encode_instr, Bool.not_eq_false', List.contains_iff_mem]
  rfl

namespace Machine

/-! ## The unused bytes (R320, R1030) -/

/-- Settles O60: each row is the fallback on its own byte. -/
theorem unusedBytes : Obligations.UnusedBytes := by
  intro s row hrow
  simp only [List.mem_cons, List.not_mem_nil, or_false] at hrow
  rcases hrow with rfl | rfl | rfl | rfl | rfl | rfl | rfl | rfl | rfl | rfl | rfl <;>
    exact ⟨rfl, congrArg Host.Outcome.next (fallback_state _ s)⟩

/-! ## Fetching an instruction (R20, R330) -/

/-- The record of where an instruction starts is not on the bus. -/
@[simp] theorem memRead_withStart (s : State) (w a : Word) :
    memRead { s with start := w } a = memRead s a :=
  memRead_congr rfl rfl rfl a

/-- Fetching the operand bytes of an opcode already fetched gives the pattern's instruction on the
word at pc, and leaves pc past them. -/
theorem fetchOperands_eq (op : Byte) {s : State} (h : s.cpu.haltBug = false) :
    fetchOperands op s =
      .instr
        ((decodeOpcode op).instr
          (joinBytes (memRead s (s.cpu.pc + 1#16)) (memRead s s.cpu.pc)))
        (s.setPc (s.cpu.pc + BitVec.ofNat 16 ((decodeOpcode op).length - 1))) := by
  have h1 : (fetch8 s).2 = s.setPc (s.cpu.pc + 1#16) := fetch8_noBug h
  cases hp : decodeOpcode op with
  | whole i => simp [fetchOperands, hp, Pattern.instr, Pattern.length, State.setPc]
  | withByte mk => simp [fetchOperands, hp, Pattern.instr, Pattern.length, h1]
  | withWord mk =>
    have h2 : (fetch8 (s.setPc (s.cpu.pc + 1#16))).2 = s.setPc (s.cpu.pc + 2#16) := by
      rw [fetch8_noBug (s := s.setPc (s.cpu.pc + 1#16)) h]
      simp [State.setPc, BitVec.add_assoc]
    simp [fetchOperands, fetch16, hp, Pattern.instr, Pattern.length, h1, h2]
  | cbPrefix => simp [fetchOperands, hp, Pattern.instr, Pattern.length, h1]

theorem opcode_instr (op : Byte) (v : Word) :
    ((decodeOpcode op).instr v).opcode =
      if op = 0xCB#8 then joinBytes 0xCB#8 (loByte v) else zext16 op := by
  simp only [Instr.opcode, encode_instr]
  split
  next h => rw [h]; rfl
  · rfl

/-- The state after the opcode byte is fetched (R330). -/
def opcodeFetched (s : State) : State := (fetch8 { s with start := s.cpu.pc }).2

/-- The fetch of a step finds the instruction that the opcode byte and the next two bytes decode to,
where the build implements it (R330); where the next bytes are, the HALT bug decides (R1011). -/
theorem fetchInstr_of_decode {s s1 : State} (hs1 : opcodeFetched s = s1) {i : Instr}
    {rest : List Byte}
    (hdecode : decode [memRead s s.cpu.pc, memRead s1 s1.cpu.pc, memRead s1 (s1.cpu.pc + 1#16)] =
      .ok (i, rest))
    (himpl : s.cfg.implements i.opcode = true) :
    fetchInstr s = .instr i (s1.setPc (s1.cpu.pc + BitVec.ofNat 16 (i.length - 1))) := by
  subst hs1
  obtain ⟨rfl, -⟩ := Prod.mk.inj (Except.ok.inj ((decode_three ..).symm.trans hdecode))
  have hbug : (opcodeFetched s).cpu.haltBug = false := fetch8_haltBug _
  have hcfg : (opcodeFetched s).cfg = s.cfg := by rw [opcodeFetched, fetch8_state]
  rw [length_instr, ← fetchOperands_eq _ hbug]
  rw [opcode_instr, loByte_joinBytes] at himpl
  simp only [fetchInstr, fetch8_fst, memRead_withStart]
  split
  next hcb =>
    rw [if_pos hcb, ← hcfg] at himpl
    rw [hcb]
    exact if_pos himpl
  next hcb =>
    rw [if_neg hcb] at himpl
    exact if_pos himpl

/-! ## A step that runs an instruction (R330, R1270) -/

theorem takenIrq_eq_none {s : State}
    (h : s.cfg.irqDispatch = false ∨ s.cpu.ime = false ∨
      memRead s 0xFFFF#16 &&& memRead s 0xFF0F#16 &&& 0x1F#8 = 0x00#8) : takenIrq s = none := by
  rw [takenIrq]
  rcases h with h | h | h
  · simp [h]
  · simp [h]
  · rw [memRead_ie_and_if] at h
    simp [pendingIrq, h]

/-- An awake CPU with no interrupt to take runs an instruction. -/
theorem cpuStep_of_awake {s : State} (hf : s.cpu.faulted = false) (hs : s.cpu.stopped = false)
    (hh : s.cpu.halted = false)
    (hirq : s.cfg.irqDispatch = false ∨ s.cpu.ime = false ∨
      memRead s 0xFFFF#16 &&& memRead s 0xFF0F#16 &&& 0x1F#8 = 0x00#8) :
    cpuStep s = runInstr s := by
  simp [cpuStep, hf, wakeStop_of_running hs, wakeHalt_of_running hh, awakeStep,
    takenIrq_eq_none hirq]

theorem runInstr_of_fetchInstr {s t : State} {i : Instr} (h : fetchInstr s = .instr i t) :
    ∃ u, exec i t = .next u ∧ runInstr s = .next (commitEi s.cpu.eiDelay u) := by
  obtain ⟨u, hu, -⟩ := exec_touched i t
  exact ⟨u, hu, by simp [runInstr, h, hu]⟩

/-- pc after the opcode byte and the operand bytes is pc past the instruction. -/
theorem pc_past_bytes (pc : Word) {n : Nat} (h : 1 ≤ n) :
    pc + 1#16 + BitVec.ofNat 16 (n - 1) = pc + BitVec.ofNat 16 n := by
  rw [BitVec.add_assoc]
  congr 1
  apply BitVec.eq_of_toNat_eq
  simp only [BitVec.toNat_add, BitVec.toNat_ofNat]
  omega

/-- Settles O8: the fetch finds the decoded instruction, which gives a next state; the EI delay and
the tick follow. -/
theorem stepRunsDecoded : Obligations.StepRunsDecoded := by
  intro s i rest hf hs hh hb hirq hdecode himpl
  have hfetched : opcodeFetched s = { s with start := s.cpu.pc }.setPc (s.cpu.pc + 1#16) :=
    fetch8_noBug hb
  have hfetch := fetchInstr_of_decode hfetched (rest := rest)
    (by simpa [BitVec.add_assoc] using hdecode) himpl
  obtain ⟨u, hu, hrun⟩ := runInstr_of_fetchInstr hfetch
  refine ⟨u, commitEi s.cpu.eiDelay u, ?_, ?_, ?_⟩
  · rw [← pc_past_bytes s.cpu.pc (one_le_length_of_decode hdecode)]
    exact hu
  · simp [commitEi]
  · exact step_of_cpuStep ((cpuStep_of_awake hf hs hh hirq).trans hrun)

/-! ## Machine cycles (R331, R313, R315) -/

/-- The result is a next state that returns `n` machine cycles. -/
def ReturnsCycles (r : Result) (n : Nat) : Prop :=
  ∃ t, r = .next t ∧ t.mcycles = n

theorem retire_returns (n : Nat) (t : State) : ReturnsCycles (retire n t) n :=
  ⟨_, rfl, rfl⟩

/-- A conditional instruction returns one count or the other (R900). -/
theorem ite_returns (c : Prop) [Decidable c] (m n : Nat) (t u : State) :
    ReturnsCycles (if c then retire m t else retire n u) (if c then m else n) := by
  split
  · exact retire_returns m t
  · exact retire_returns n u

theorem haltCpu_returns (s : State) : ReturnsCycles (haltCpu s) 1 := by
  rw [haltCpu]
  split
  · exact retire_returns 1 _
  · exact retire_returns 1 _

theorem unknownOpcode_returns (op : Byte) (s : State) : ReturnsCycles (unknownOpcode op s) 0 :=
  ⟨_, rfl, by rw [fallback_state]⟩

/-- Settles O17, row by row: the count of the row's meaning is the cell of the map. -/
theorem execCycles : Obligations.ExecCycles := by
  intro i s
  change ReturnsCycles (exec i s) (tableCycles i s.cpu.f)
  cases i with
  | jrNzE8 _ | jrZE8 _ | jrNcE8 _ | jrCE8 _ => exact ite_returns _ 3 2 _ _
  | jpNzA16 _ | jpZA16 _ | jpNcA16 _ | jpCA16 _ => exact ite_returns _ 4 3 _ _
  | callNzA16 _ | callZA16 _ | callNcA16 _ | callCA16 _ => exact ite_returns _ 6 3 _ _
  | retNz | retZ | retNc | retC => exact ite_returns _ 5 2 _ _
  | halt => exact haltCpu_returns s
  | illegalD3 | illegalDB | illegalDD | illegalE3 | illegalE4 | illegalEB | illegalEC | illegalED
  | illegalF4 | illegalFC | illegalFD => exact unknownOpcode_returns _ s
  | _ => exact retire_returns _ _

/-! ## Flags (R350, R102) -/

/-- The flags of `t` are those of `s` changed only as the column says. -/
structure FlagColumn.Allows (col : FlagColumn) (s t : State) : Prop where
  z : col.z.allows s.fZ t.fZ
  n : col.n.allows s.fN t.fN
  h : col.h.allows s.fH t.fH
  c : col.c.allows s.fCY t.fCY

/-- The result is a next state whose flags the column allows. -/
def FlagsWithin (s : State) (r : Result) (col : FlagColumn) : Prop :=
  ∃ t, r = .next t ∧ col.Allows s t

/-- With F as it was, the column of no flag at all is kept to. -/
theorem FlagColumn.Allows.of_f_eq {s t : State} (h : t.cpu.f = s.cpu.f) :
    FlagColumn.none.Allows s t :=
  ⟨congrArg flagZ h, congrArg flagN h, congrArg flagH h, congrArg flagC h⟩

theorem retire_keepsFlags {s t : State} (n : Nat) (h : t.cpu.f = s.cpu.f) :
    FlagsWithin s (retire n t) .none :=
  ⟨_, rfl, .of_f_eq h⟩

theorem retire_setFlags {s t : State} {col : FlagColumn} {m : Nat} {z n h c : Bool}
    (hz : col.z.allows s.fZ z) (hn : col.n.allows s.fN n) (hh : col.h.allows s.fH h)
    (hc : col.c.allows s.fCY c) : FlagsWithin s (retire m (t.setFlags z n h c)) col := by
  refine ⟨_, rfl, ?_, ?_, ?_, ?_⟩
  · simpa [State.fZ] using hz
  · simpa [State.fN] using hn
  · simpa [State.fH] using hh
  · simpa [State.fCY] using hc

theorem ite_flags {c : Prop} [Decidable c] {s : State} {r r' : Result} {col : FlagColumn}
    (h : FlagsWithin s r col) (h' : FlagsWithin s r' col) :
    FlagsWithin s (if c then r else r') col := by
  split
  · exact h
  · exact h'

theorem unknownOpcode_flags (op : Byte) (s : State) : FlagsWithin s (unknownOpcode op s) .none :=
  ⟨_, rfl, .of_f_eq (by rw [fallback_state])⟩

/-- DAA keeps N and clears H (R550). -/
theorem daaOut_n_h (a : Byte) (n h cy : Bool) :
    (daaOut a n h cy).n = n ∧ (daaOut a n h cy).h = false := by
  cases n <;> exact ⟨rfl, rfl⟩

/-- Row by row (R350): a row either leaves F alone or ends in `setFlags`, with the flags its column
gives; POP AF alone loads all four. -/
theorem exec_flags (i : Instr) (s : State) : FlagsWithin s (exec i s) (flagColumn i) := by
  cases i with
  | addAB | addAC | addAD | addAE | addAH | addAL | addAAtHl | addAA | addAD8 _ | adcAB | adcAC
  | adcAD | adcAE | adcAH | adcAL | adcAAtHl | adcAA | adcAD8 _ =>
    exact retire_setFlags (col := .z0hc) trivial rfl trivial trivial
  | subB | subC | subD | subE | subH | subL | subAtHl | subA | subD8 _ | sbcAB | sbcAC | sbcAD
  | sbcAE | sbcAH | sbcAL | sbcAAtHl | sbcAA | sbcAD8 _ | cpB | cpC | cpD | cpE | cpH | cpL
  | cpAtHl | cpA | cpD8 _ =>
    exact retire_setFlags (col := .z1hc) trivial rfl trivial trivial
  | andB | andC | andD | andE | andH | andL | andAtHl | andA | andD8 _ =>
    exact retire_setFlags (col := .z010) trivial rfl rfl rfl
  | xorB | xorC | xorD | xorE | xorH | xorL | xorAtHl | xorA | xorD8 _ | orB | orC | orD | orE
  | orH | orL | orAtHl | orA | orD8 _ | swapB | swapC | swapD | swapE | swapH | swapL | swapAtHl
  | swapA =>
    exact retire_setFlags (col := .z000) trivial rfl rfl rfl
  | incB | incC | incD | incE | incH | incL | incAtHl | incA =>
    exact retire_setFlags (col := .z0hk) trivial rfl trivial rfl
  | decB | decC | decD | decE | decH | decL | decAtHl | decA =>
    exact retire_setFlags (col := .z1hk) trivial rfl trivial rfl
  | daa =>
    obtain ⟨hn, hh⟩ := daaOut_n_h s.cpu.a s.fN s.fH s.fCY
    exact retire_setFlags (col := .zk0c) trivial hn hh trivial
  | cpl => exact retire_setFlags (col := .k11k) rfl rfl rfl rfl
  | scf => exact retire_setFlags (col := .k001) rfl rfl rfl rfl
  | ccf => exact retire_setFlags (col := .k00c) rfl rfl rfl trivial
  | addHlBc | addHlDe | addHlHl | addHlSp =>
    exact retire_setFlags (col := .k0hc) rfl rfl trivial trivial
  | addSpE8 _ | ldHlSpE8 _ => exact retire_setFlags (col := .r00hc) rfl rfl trivial trivial
  | rlca | rrca | rla | rra => exact retire_setFlags (col := .r000c) rfl rfl rfl trivial
  | rlcB | rlcC | rlcD | rlcE | rlcH | rlcL | rlcAtHl | rlcA | rrcB | rrcC | rrcD | rrcE | rrcH
  | rrcL | rrcAtHl | rrcA | rlB | rlC | rlD | rlE | rlH | rlL | rlAtHl | rlA | rrB | rrC | rrD
  | rrE | rrH | rrL | rrAtHl | rrA | slaB | slaC | slaD | slaE | slaH | slaL | slaAtHl | slaA
  | sraB | sraC | sraD | sraE | sraH | sraL | sraAtHl | sraA | srlB | srlC | srlD | srlE | srlH
  | srlL | srlAtHl | srlA =>
    exact retire_setFlags (col := .z00c) trivial rfl rfl trivial
  | bit0B | bit0C | bit0D | bit0E | bit0H | bit0L | bit0AtHl | bit0A | bit1B | bit1C | bit1D
  | bit1E | bit1H | bit1L | bit1AtHl | bit1A | bit2B | bit2C | bit2D | bit2E | bit2H | bit2L
  | bit2AtHl | bit2A | bit3B | bit3C | bit3D | bit3E | bit3H | bit3L | bit3AtHl | bit3A | bit4B
  | bit4C | bit4D | bit4E | bit4H | bit4L | bit4AtHl | bit4A | bit5B | bit5C | bit5D | bit5E
  | bit5H | bit5L | bit5AtHl | bit5A | bit6B | bit6C | bit6D | bit6E | bit6H | bit6L | bit6AtHl
  | bit6A | bit7B | bit7C | bit7D | bit7E | bit7H | bit7L | bit7AtHl | bit7A =>
    exact retire_setFlags (col := .z01k) trivial rfl rfl rfl
  | popAf => exact ⟨_, rfl, trivial, trivial, trivial, trivial⟩
  | popBc | popDe | popHl => exact retire_keepsFlags _ (by rfl)
  | jrNzE8 _ | jrZE8 _ | jrNcE8 _ | jrCE8 _ | jpNzA16 _ | jpZA16 _ | jpNcA16 _ | jpCA16 _
  | callNzA16 _ | callZA16 _ | callNcA16 _ | callCA16 _ | retNz | retZ | retNc | retC | halt =>
    exact ite_flags (retire_keepsFlags _ (by simp [popState])) (retire_keepsFlags _ (by rfl))
  | illegalD3 | illegalDB | illegalDD | illegalE3 | illegalE4 | illegalEB | illegalEC | illegalED
  | illegalF4 | illegalFC | illegalFD => exact unknownOpcode_flags _ s
  | _ => exact retire_keepsFlags _ (by simp [popState, returnFromInterrupt, memWrite16])

/-- Settles O18: the row's column, and F[3:0] as every instruction keeps it. -/
theorem execFlags : Obligations.ExecFlags := by
  intro i s
  obtain ⟨t, ht, hcol⟩ := exec_flags i s
  obtain ⟨t', ht', hkept⟩ := exec_touched i s
  cases ht.symm.trans ht'
  exact ⟨t, ht, hcol.z, hcol.n, hcol.h, hcol.c, hkept.f_low⟩

end Machine

end Sys2Proof
end

section
/-!
PROOFS. Loads, stores and the stack: what a load, a store and a stack transfer leave alone, how the
rows are encoded, and that what is pushed pops back.
-/

namespace Sys2Proof.Machine

/-! ## Bytes and words -/

theorem loByte_append (hi lo : Byte) : loByte (hi ++ lo) = lo :=
  loByte_joinBytes hi lo

theorem hiByte_append (hi lo : Byte) : hiByte (hi ++ lo) = hi :=
  hiByte_joinBytes hi lo

/-- The high page is the page of high byte 0xFF (R400). -/
theorem highPage_eq (n : Byte) : highPage n = 0xFF#8 ++ n := by
  apply BitVec.eq_of_toNat_eq
  rw [highPage_toNat]
  exact (joinBytes_toNat 0xFF#8 n).symm

/-- An operand word is encoded low byte first (R260). -/
theorem enc3_append (op hi lo : Byte) : enc3 op (hi ++ lo) = [op, lo, hi] := by
  rw [enc3, loByte_append, hiByte_append]

/-! ## Registers after a write of a pair -/

theorem State.reg8_setReg16_of_not_mem {rr : Reg16} {r : Reg8} (h : r ∉ rr.parts) (s : State)
    (v : Word) : (s.setReg16 rr v).reg8 r = s.reg8 r := by
  cases rr with
  | sp => exact State.reg8_setSp s r v
  | bc | de | hl => cases r <;> simp [Reg16.parts] at h <;> rfl

theorem State.reg8_setReg16Stack_of_not_mem {qq : Reg16Stack} {r : Reg8} (h : r ∉ qq.parts)
    (s : State) (v : Word) : (s.setReg16Stack qq v).reg8 r = s.reg8 r := by
  cases qq with
  | bc => exact State.reg8_setReg16_of_not_mem (rr := .bc) h s v
  | de => exact State.reg8_setReg16_of_not_mem (rr := .de) h s v
  | hl => exact State.reg8_setReg16_of_not_mem (rr := .hl) h s v
  | af => cases r <;> simp [Reg16Stack.parts] at h <;> rfl

theorem State.reg16_setReg16_same (s : State) (rr : Reg16) (v : Word) :
    (s.setReg16 rr v).reg16 rr = v := by
  cases rr with
  | sp => rfl
  | bc | de | hl => exact joinBytes_hiByte_loByte v

theorem State.reg16Stack_setReg16Stack_same {qq : Reg16Stack} (h : qq ≠ .af) (s : State)
    (v : Word) : (s.setReg16Stack qq v).reg16Stack qq = v := by
  cases qq with
  | af => exact absurd rfl h
  | bc | de | hl => exact joinBytes_hiByte_loByte v

theorem State.setReg16Stack_f {qq : Reg16Stack} (h : qq ≠ .af) (s : State) (v : Word) :
    (s.setReg16Stack qq v).cpu.f = s.cpu.f := by
  cases qq with
  | af => exact absurd rfl h
  | bc | de | hl => rfl

theorem State.setReg16_sp {rr : Reg16} (h : rr ≠ .sp) (s : State) (v : Word) :
    (s.setReg16 rr v).cpu.sp = s.cpu.sp := by
  cases rr with
  | sp => exact absurd rfl h
  | bc | de | hl => rfl

/-- The stack pairs depend on the CPU part of the state alone. -/
theorem State.reg16Stack_congr {s t : State} (h : t.cpu = s.cpu) (qq : Reg16Stack) :
    t.reg16Stack qq = s.reg16Stack qq := by
  cases qq <;> simp [State.reg16Stack, State.bc, State.de, State.hl, State.af, h]

theorem State.reg16Stack_setSp (s : State) (qq : Reg16Stack) (v : Word) :
    (s.setSp v).reg16Stack qq = s.reg16Stack qq := by
  cases qq <;> rfl

/-- Writing a pair's own value back changes nothing; for AF because F[3:0] is 0 (R102). -/
theorem State.setReg16Stack_self {s : State} (hf : s.cpu.f &&& 0x0F#8 = 0x00#8)
    (qq : Reg16Stack) : s.setReg16Stack qq (s.reg16Stack qq) = s := by
  cases qq with
  | bc | de | hl =>
    simp [State.setReg16Stack, State.reg16Stack, State.setReg16, State.bc, State.de, State.hl]
  | af => simp [State.setReg16Stack, State.reg16Stack, State.af, and_high_of_low hf]

/-! ## What is left alone -/

section

variable {s t : State} {w : List Reg8}

theorem PlainTouched.kept (h : PlainTouched s t) (hregs : ∀ r ∉ w, t.reg8 r = s.reg8 r) :
    Kept w s t :=
  { h with regs := hregs }

theorem Kept.sameMemory (h : Kept w s t) (hbus : t.bus = s.bus) : SameMemory s t :=
  ⟨hbus, memRead_congr h.cfg hbus h.ppu⟩

theorem Kept.registersOnly (h : Kept w s t) (hsp : t.cpu.sp = s.cpu.sp)
    (hpc : t.cpu.pc = s.cpu.pc) (hbus : t.bus = s.bus) : RegistersOnly w s t :=
  ⟨{ h with sp := hsp, pc := hpc }, h.sameMemory hbus⟩

/-- Where the bus is that of a write, every address reads as after that write. -/
theorem Kept.memRead_eq {u : State} (h : Kept w s t) (hcfg : u.cfg = s.cfg) (hppu : u.ppu = s.ppu)
    (hbus : t.bus = u.bus) (a : Word) : memRead t a = memRead u a :=
  memRead_congr (h.cfg.trans hcfg.symm) hbus (h.ppu.trans hppu.symm) a

theorem Kept.stored (h : Kept w s t) {a : Word} {v : Byte}
    (hbus : t.bus = (memWrite a v s).bus) : Stored a v s t := by
  have hread := h.memRead_eq (memWrite_cfg a v s) (memWrite_ppu a v s) hbus
  refine ⟨hbus, fun hs hst => ?_, fun hs b hb => ?_⟩
  · rw [hread, memRead_memWrite_of_storesByte hs hst]
  · rw [hread, memRead_memWrite_of_not_reach hs hb]

/-! ## Two bytes at neighbouring addresses -/

/-- No ROM address stores a byte. -/
theorem le_of_storesByte {a : Word} (h : storesByte s a = true) : 0x8000 ≤ a.toNat := by
  by_contra hlt
  have hnone : plainPlace s a = none := by
    simp only [plainPlace]
    rw [if_pos (by omega)]
  simp only [storesByte, hnone, Option.isSome_none, Bool.false_or, Bool.or_eq_true,
    decide_eq_true_iff] at h
  rcases h with rfl | rfl
  · exact hlt (by decide)
  · exact hlt (by decide)

/-- Outside the banking registers no write reaches the address before its own or after it. -/
theorem writeReach_neighbour {a b : Word} (ha : 0x8000 ≤ a.toNat)
    (h : b = a + 1#16 ∨ a = b + 1#16) : writeReach a b = false := by
  have hlt := a.isLt
  have hab : b.toNat = (a.toNat + 1) % 65536 ∨ a.toNat = (b.toNat + 1) % 65536 := by
    rcases h with rfl | rfl
    · exact .inl (BitVec.toNat_add a 1#16)
    · exact .inr (BitVec.toNat_add b 1#16)
  simp only [writeReach]
  repeat rw [if_neg (by omega)]
  split_ifs <;> simp <;> omega

theorem OnlyMem.plainPlace_eq (h : OnlyMem s t) (b : Word) : plainPlace t b = plainPlace s b := by
  obtain ⟨m, hbus⟩ := h
  simp only [plainPlace, hbus]

theorem oamCopied_onlyMem (src : Word) (n : Nat) (s : State) : OnlyMem s (oamCopied src n s) := by
  induction n with
  | zero => exact OnlyMem.refl s
  | succ n ih =>
    rw [oamCopied_succ]
    exact ih.trans ⟨_, rfl⟩

theorem dmaWrite_onlyMem (v : Byte) (s : State) : OnlyMem s (dmaWrite v s) := by
  have hset : OnlyMem s (s.setIo 0x46 v) := ⟨_, rfl⟩
  rw [dmaWrite_eq]
  split
  · exact hset.trans (oamCopied_onlyMem _ _ _)
  · exact hset

/-- A write that stores its byte moves no address's place: it is none of the banking writes. -/
theorem plainPlace_memWrite {a : Word} (h : storesByte s a = true) (v : Byte) (b : Word) :
    plainPlace (memWrite a v s) b = plainPlace s b := by
  rw [storesByte, Bool.or_eq_true, Bool.or_eq_true, decide_eq_true_iff, decide_eq_true_iff] at h
  rcases h with (h | rfl) | rfl
  · obtain ⟨p, hp⟩ := Option.isSome_iff_exists.mp h
    rw [memWrite_of_plain hp, plainPlace_storePlace]
  · rw [memWrite_ioReg s (n := 0x45) (by decide)]
    rfl
  · rw [memWrite_dma, (dmaWrite_onlyMem v s).plainPlace_eq]

theorem storesByte_memWrite {a : Word} (h : storesByte s a = true) (v : Byte) (b : Word) :
    storesByte (memWrite a v s) b = storesByte s b := by
  rw [storesByte, plainPlace_memWrite h]
  rfl

/-- Two bytes written at neighbouring addresses: the second write keeps the first byte. -/
theorem Kept.storedTwo (h : Kept w s t) {a b : Word} (hab : a = b + 1#16 ∨ b = a + 1#16)
    {v x : Byte} (hbus : t.bus = (memWrite b x (memWrite a v s)).bus) : StoredTwo a v b x s t := by
  have hread := h.memRead_eq (u := memWrite b x (memWrite a v s)) (by simp) (by simp) hbus
  refine ⟨hbus, fun hs ha hb => ⟨?_, ?_⟩, fun hs c hac hbc => ?_⟩
  · have hreach := writeReach_neighbour (le_of_storesByte hb) hab
    rw [hread, memRead_memWrite_of_not_reach (hs.memWrite a v) hreach,
      memRead_memWrite_of_storesByte hs ha]
  · rw [hread, memRead_memWrite_of_storesByte (hs.memWrite a v) (by rwa [storesByte_memWrite ha])]
  · rw [hread, memRead_memWrite_of_not_reach (hs.memWrite a v) hbc,
      memRead_memWrite_of_not_reach hs hac]

/-! ## A row that loads one register, and a row that stores one byte -/

theorem exec_of_setReg8 {i : Instr} {r : Reg8} {v : Byte} {n : Nat}
    (h : exec i s = retire n (s.setReg8 r v)) :
    ∃ t, exec i s = .next t ∧ t.reg8 r = v ∧ RegistersOnly [r] s t ∧ t.cpu.f = s.cpu.f ∧
      t.mcycles = n := by
  have hkept : Kept [r] s ((s.setReg8 r v).setCycles n) :=
    (((PlainTouched.refl s).setReg8 r v).setCycles n).kept fun r' hr => by
      rw [State.reg8_setCycles, State.reg8_setReg8, if_neg (by simpa using hr)]
  exact ⟨_, h, by simp, hkept.registersOnly (by simp) (by simp) (by simp), by simp, rfl⟩

theorem exec_of_memWrite {i : Instr} {a : Word} {v : Byte} {n : Nat}
    (h : exec i s = retire n (memWrite a v s)) :
    ∃ t, exec i s = .next t ∧ Stored a v s t ∧ KeptSpPc [] s t ∧ t.cpu.f = s.cpu.f ∧
      t.mcycles = n := by
  have hkept : Kept [] s ((memWrite a v s).setCycles n) :=
    (((PlainTouched.refl s).memWrite a v).setCycles n).kept fun r _ =>
      State.reg8_congr (by simp) r
  exact ⟨_, h, hkept.stored rfl, { hkept with sp := by simp, pc := by simp }, by simp, rfl⟩

end

/-! ## LD on 8-bit operands (R401-R405) -/

theorem encode_ld (d x : Operand8) : encode (.ld d x) = [0b01#2 ++ d.code ++ x.code] := by
  cases d with
  | atHl => cases x with
    | atHl => rfl
    | reg r => cases r <;> rfl
  | reg r => cases x with
    | atHl => cases r <;> rfl
    | reg r' => cases r <;> cases r' <;> rfl

theorem encode_ldImm8 (d : Operand8) (n : Byte) :
    encode (.ldImm8 d n) = [0b00#2 ++ d.code ++ 0b110#3, n] := by
  cases d with
  | atHl => rfl
  | reg r => cases r <;> rfl

theorem exec_ld_reg (r : Reg8) (x : Operand8) (s : State) :
    exec (.ld (.reg r) x) s = retire (x.count 1 2) (s.setReg8 r (x.value s)) := by
  cases x with
  | atHl => cases r <;> rfl
  | reg r' => cases r <;> cases r' <;> rfl

theorem exec_ld_atHl (r : Reg8) (s : State) :
    exec (.ld .atHl (.reg r)) s = retire 2 (memWrite s.hl (s.reg8 r) s) := by
  cases r <;> rfl

theorem exec_ldImm8_reg (r : Reg8) (n : Byte) (s : State) :
    exec (.ldImm8 (.reg r) n) s = retire 2 (s.setReg8 r n) := by
  cases r <;> rfl

/-- Settles O35: the rows write the operand's value into the register and nothing else. -/
theorem loadRegister : Obligations.LoadRegister := fun s r x n =>
  ⟨⟨encode_ld (.reg r) x, exec_of_setReg8 (exec_ld_reg r x s)⟩,
    encode_ldImm8 (.reg r) n, exec_of_setReg8 (exec_ldImm8_reg r n s)⟩

/-- Settles O36: the rows are one bus write at HL. -/
theorem storeAtHl : Obligations.StoreAtHl := fun s r n =>
  ⟨rfl, ⟨encode_ld .atHl (.reg r), exec_of_memWrite (exec_ld_atHl r s)⟩,
    encode_ldImm8 .atHl n, exec_of_memWrite (v := n) rfl⟩

/-! ## Loads and stores of A (R406-R415) -/

/-- Settles O37, row by row: A takes the byte at the row's address. -/
theorem loadAccumulator : Obligations.LoadAccumulator := by
  intro s n lo hi
  simp only [← highPage_eq, List.forall_mem_cons]
  exact ⟨⟨rfl, exec_of_setReg8 (r := .a) rfl⟩, ⟨rfl, exec_of_setReg8 (r := .a) rfl⟩,
    ⟨enc3_append _ hi lo, exec_of_setReg8 (r := .a) rfl⟩,
    ⟨rfl, exec_of_setReg8 (r := .a) rfl⟩, ⟨rfl, exec_of_setReg8 (r := .a) rfl⟩,
    List.forall_mem_nil _⟩

/-- Settles O38, row by row: A is written at the row's address. -/
theorem storeAccumulator : Obligations.StoreAccumulator := by
  intro s n lo hi
  simp only [← highPage_eq, List.forall_mem_cons]
  exact ⟨⟨rfl, exec_of_memWrite rfl⟩, ⟨rfl, exec_of_memWrite rfl⟩,
    ⟨enc3_append _ hi lo, exec_of_memWrite rfl⟩, ⟨rfl, exec_of_memWrite rfl⟩,
    ⟨rfl, exec_of_memWrite rfl⟩, List.forall_mem_nil _⟩

/-! ## Loads and stores of A that step HL (R416-R419) -/

theorem exec_of_storeAStepHl {s : State} {i : Instr} {delta : Word}
    (h : exec i s = storeAStepHl delta s) :
    ∃ t, exec i s = .next t ∧ Stored s.hl s.cpu.a s t ∧ t.hl = s.hl + delta ∧
      KeptSpPc [.h, .l] s t ∧ t.cpu.f = s.cpu.f ∧ t.mcycles = 2 := by
  have hkept : Kept [.h, .l] s
      (((memWrite s.hl s.cpu.a s).setReg16 .hl (s.hl + delta)).setCycles 2) :=
    ((((PlainTouched.refl s).memWrite s.hl s.cpu.a).setReg16 .hl (s.hl + delta)).setCycles 2).kept
      fun r hr => by
        rw [State.reg8_setCycles, State.reg8_setReg16_of_not_mem (rr := .hl) hr]
        exact State.reg8_congr (by simp) r
  have hsp := State.setReg16_sp (rr := .hl) (by decide) (memWrite s.hl s.cpu.a s) (s.hl + delta)
  exact ⟨_, h, hkept.stored rfl, State.reg16_setReg16_same _ .hl _,
    { hkept with sp := by simpa using hsp, pc := by simp }, by simp, rfl⟩

theorem exec_of_loadAStepHl {s : State} {i : Instr} {delta : Word}
    (h : exec i s = loadAStepHl delta s) :
    ∃ t, exec i s = .next t ∧ t.cpu.a = memRead s s.hl ∧ t.hl = s.hl + delta ∧
      RegistersOnly [.a, .h, .l] s t ∧ t.cpu.f = s.cpu.f ∧ t.mcycles = 2 := by
  have hkept : Kept [.a, .h, .l] s
      (((s.setReg8 .a (memRead s s.hl)).setReg16 .hl (s.hl + delta)).setCycles 2) :=
    ((((PlainTouched.refl s).setReg8 .a _).setReg16 .hl (s.hl + delta)).setCycles 2).kept
      fun r hr => by
        obtain ⟨ha, hhl⟩ := not_or.mp (fun h => hr (List.mem_cons.mpr h))
        rw [State.reg8_setCycles, State.reg8_setReg16_of_not_mem (rr := .hl) hhl,
          State.reg8_setReg8, if_neg ha]
  exact ⟨_, h, rfl, State.reg16_setReg16_same _ .hl _, hkept.registersOnly rfl rfl rfl, rfl, rfl⟩

/-- Settles O39: each row is its access at the old HL and then the step of HL. -/
theorem hlStep : Obligations.HlStep := by
  intro s
  simp only [List.forall_mem_cons]
  exact ⟨⟨⟨rfl, exec_of_storeAStepHl rfl⟩, ⟨rfl, exec_of_storeAStepHl rfl⟩, List.forall_mem_nil _⟩,
    ⟨rfl, exec_of_loadAStepHl rfl⟩, ⟨rfl, exec_of_loadAStepHl rfl⟩, List.forall_mem_nil _⟩

/-! ## 16-bit loads (R430-R432) -/

theorem encode_ldImm16 (rr : Reg16) (hi lo : Byte) :
    encode (.ldImm16 rr (hi ++ lo)) = [0b00#2 ++ rr.code ++ 0b0001#4, lo, hi] := by
  cases rr <;> exact enc3_append _ hi lo

theorem exec_ldImm16 (rr : Reg16) (v : Word) (s : State) :
    exec (.ldImm16 rr v) s = ldPairImm rr v s := by
  cases rr <;> rfl

theorem ldPairImm_kept (rr : Reg16) (v : Word) (s : State) :
    Kept rr.parts s ((s.setReg16 rr v).setCycles 3) :=
  (((PlainTouched.refl s).setReg16 rr v).setCycles 3).kept fun r hr => by
    rw [State.reg8_setCycles, State.reg8_setReg16_of_not_mem hr]

theorem ldSpFromHl_kept (s : State) : Kept [] s ((s.setSp s.hl).setCycles 2) :=
  (((PlainTouched.refl s).setSp s.hl).setCycles 2).kept fun r _ => by simp

theorem storeSp_kept (a : Word) (s : State) : Kept [] s ((memWrite16 a s.cpu.sp s).setCycles 5) :=
  ((((PlainTouched.refl s).memWrite a _).memWrite (a + 1#16) _).setCycles 5).kept fun r _ =>
    State.reg8_congr (by simp) r

/-- Settles O40: the pair takes the operand word, SP takes HL, and SP is stored at two neighbouring
addresses. -/
theorem loadPair : Obligations.LoadPair := by
  intro s rr lo hi
  refine ⟨⟨encode_ldImm16 rr hi lo, _, exec_ldImm16 rr _ s, ?_⟩, ⟨rfl, _, rfl, ?_⟩,
    enc3_append _ hi lo, _, rfl, ?_⟩
  · have hkept := ldPairImm_kept rr (hi ++ lo) s
    have hreg := State.reg16_setReg16_same s rr (hi ++ lo)
    exact ⟨(State.reg16_congr rfl rr).trans hreg, hkept, fun hrr => State.setReg16_sp hrr s _,
      by simp, hkept.sameMemory (by simp), by simp, rfl⟩
  · have hkept := ldSpFromHl_kept s
    exact ⟨rfl, hkept, rfl, hkept.sameMemory rfl, rfl, rfl⟩
  · have hkept := storeSp_kept (hi ++ lo) s
    have hcpu : (memWrite16 (hi ++ lo) s.cpu.sp s).cpu = s.cpu := by simp [memWrite16]
    exact ⟨hkept.storedTwo (.inr rfl) rfl,
      { hkept with sp := congrArg Cpu.sp hcpu, pc := congrArg Cpu.pc hcpu }, congrArg Cpu.f hcpu,
      rfl⟩

/-! ## PUSH and POP (R440-R442) -/

theorem encode_push (qq : Reg16Stack) :
    encode (.push qq) = [0b11#2 ++ qq.code ++ 0b0101#4] := by
  cases qq <;> rfl

theorem encode_pop (qq : Reg16Stack) :
    encode (.pop qq) = [0b11#2 ++ qq.code ++ 0b0001#4] := by
  cases qq <;> rfl

theorem reg8_push16 (v : Word) (s : State) (r : Reg8) : (push16 v s).reg8 r = s.reg8 r :=
  (State.reg8_congr (s := s.setSp (s.cpu.sp - 2#16)) (push16_cpu v s) r).trans
    (State.reg8_setSp s r _)

theorem push16_bus (v : Word) (s : State) :
    (push16 v s).bus =
      (memWrite (s.cpu.sp - 2#16) (loByte v) (memWrite (s.cpu.sp - 1#16) (hiByte v) s)).bus := by
  rw [push16_eq]

theorem sub_two_add_one (v : Word) : v - 2#16 + 1#16 = v - 1#16 := by
  rw [← sub_one_sub_one, BitVec.sub_add_cancel]

/-- A push stores its high byte and then its low byte, at neighbouring addresses (R20). -/
theorem Kept.storedTwo_push16 {s t : State} {w : List Reg8} (h : Kept w s t) {v : Word}
    (hbus : t.bus = (push16 v s).bus) :
    StoredTwo (s.cpu.sp - 1#16) (hiByte v) (s.cpu.sp - 2#16) (loByte v) s t :=
  h.storedTwo (.inl (sub_two_add_one s.cpu.sp).symm) (hbus.trans (push16_bus v s))

/-- The state PUSH leaves. -/
def pushed (qq : Reg16Stack) (s : State) : State :=
  (push16 (s.reg16Stack qq) s).setCycles 4

/-- The state POP leaves. -/
def popped (qq : Reg16Stack) (s : State) : State :=
  ((popState s).setReg16Stack qq (popValue s)).setCycles 3

theorem exec_push (qq : Reg16Stack) (s : State) : exec (.push qq) s = .next (pushed qq s) := by
  cases qq <;> rfl

theorem exec_pop (qq : Reg16Stack) (s : State) : exec (.pop qq) s = .next (popped qq s) := by
  cases qq <;> rfl

@[simp] theorem pushed_cpu (qq : Reg16Stack) (s : State) :
    (pushed qq s).cpu = { s.cpu with sp := s.cpu.sp - 2#16 } := by
  simp [pushed]

theorem pushed_kept (qq : Reg16Stack) (s : State) : Kept [] s (pushed qq s) :=
  (((PlainTouched.refl s).push16 (s.reg16Stack qq)).setCycles 4).kept fun r _ => by
    rw [State.reg8_setCycles, reg8_push16]

theorem pushed_storedTwo (qq : Reg16Stack) (s : State) :
    StoredTwo (s.cpu.sp - 1#16) (hiByte (s.reg16Stack qq)) (s.cpu.sp - 2#16)
      (loByte (s.reg16Stack qq)) s (pushed qq s) :=
  (pushed_kept qq s).storedTwo_push16 rfl

theorem popped_kept (qq : Reg16Stack) (s : State) : Kept qq.parts s (popped qq s) :=
  ((((PlainTouched.refl s).setSp (s.cpu.sp + 2#16)).setReg16Stack qq (popValue s)).setCycles 3).kept
    fun r hr => by
      rw [State.reg8_setCycles, State.reg8_setReg16Stack_of_not_mem hr, State.reg8_setSp]

@[simp] theorem popped_sp (qq : Reg16Stack) (s : State) :
    (popped qq s).cpu.sp = s.cpu.sp + 2#16 := by
  simp [popped, popState]

@[simp] theorem popped_pc (qq : Reg16Stack) (s : State) : (popped qq s).cpu.pc = s.cpu.pc := by
  simp [popped, popState]

@[simp] theorem popped_bus (qq : Reg16Stack) (s : State) : (popped qq s).bus = s.bus := by
  simp [popped, popState]

theorem pushed_reg16Stack (qq : Reg16Stack) (s : State) :
    (pushed qq s).reg16Stack qq = s.reg16Stack qq :=
  (State.reg16Stack_congr (s := s.setSp (s.cpu.sp - 2#16)) (pushed_cpu qq s) qq).trans
    (State.reg16Stack_setSp s qq _)

theorem popped_reg16Stack {qq : Reg16Stack} (h : qq ≠ .af) (s : State) :
    (popped qq s).reg16Stack qq = popValue s :=
  (State.reg16Stack_congr rfl qq).trans (State.reg16Stack_setReg16Stack_same h _ _)

/-- POP AF loads the four flags and keeps F[3:0] at 0 (R441). -/
theorem popped_af_flags (s : State) :
    HasFlags ((memRead s s.cpu.sp).getLsbD 7) ((memRead s s.cpu.sp).getLsbD 6)
      ((memRead s s.cpu.sp).getLsbD 5) ((memRead s s.cpu.sp).getLsbD 4) (popped .af s) := by
  have hf : (popped .af s).cpu.f = memRead s s.cpu.sp &&& 0xF0#8 :=
    congrArg (· &&& 0xF0#8) (loByte_joinBytes _ _)
  exact ⟨by simp [State.fZ, flagZ, hf], by simp [State.fN, flagN, hf],
    by simp [State.fH, flagH, hf], by simp [State.fCY, flagC, hf], by rw [hf, and_high_and_low]⟩

/-- Settles O41: PUSH is two writes below SP, POP two reads from SP up. -/
theorem pushAndPop : Obligations.PushAndPop := by
  intro s qq
  refine ⟨⟨encode_push qq, _, exec_push qq s, ?_⟩, encode_pop qq, _, exec_pop qq s, ?_⟩
  · exact ⟨pushed_storedTwo qq s, by simp, pushed_kept qq s, by simp, by simp, rfl⟩
  · have hkept := popped_kept qq s
    refine ⟨fun hqq => ⟨popped_reg16Stack hqq s, State.setReg16Stack_f hqq _ _⟩, ?_,
      popped_sp qq s, hkept, popped_pc qq s, hkept.sameMemory (popped_bus qq s), rfl⟩
    rintro rfl
    exact ⟨hiByte_joinBytes _ _, popped_af_flags s⟩

/-- POP of a pair whose value the stack holds leaves the pair as it is, and SP two higher. -/
theorem popped_cpu_of_popValue {qq : Reg16Stack} {s : State} (hf : s.cpu.f &&& 0x0F#8 = 0x00#8)
    (h : popValue s = s.reg16Stack qq) :
    (popped qq s).cpu = { s.cpu with sp := s.cpu.sp + 2#16 } := by
  have hpair : (popState s).reg16Stack qq = popValue s :=
    (State.reg16Stack_setSp s qq _).trans h.symm
  have hself := State.setReg16Stack_self (s := popState s) hf qq
  rw [popped, State.setCycles_cpu, ← hpair, hself]
  rfl

/-- Settles O42: the two bytes stored are the two bytes read back (C9). -/
theorem pushThenPop : Obligations.PushThenPop := by
  intro s qq hs hf hhi hlo
  refine ⟨_, _, exec_push qq s, exec_pop qq _, ?_⟩
  have hsp : (pushed qq s).cpu.sp + 1#16 = s.cpu.sp - 1#16 := by
    rw [pushed_cpu, sub_two_add_one]
  obtain ⟨hhigh, hlow⟩ := (pushed_storedTwo qq s).values hs hhi hlo
  have hvalue : popValue (pushed qq s) = (pushed qq s).reg16Stack qq := by
    rw [popValue, hsp, hhigh, pushed_cpu, hlow, joinBytes_hiByte_loByte, pushed_reg16Stack]
  rw [popped_cpu_of_popValue (by simpa using hf) hvalue]
  simp

/-! ## Words of the spec's encodings -/

/-- Settles O4: each sequence is the encoding of its instruction. -/
theorem decodeWords : Obligations.DecodeWords :=
  ⟨decodeEncode .ldBC [], decodeEncode (.ldHlD16 0x5821#16) [], decodeEncode .sbcAAtHl [],
    decodeEncode .incL [], decodeEncode .incSp [], decodeEncode (.jrNcE8 0xFC#8) [],
    decodeEncode .pushAf [], decodeEncode .rst28 [], decodeEncode .srlA [],
    decodeEncode .bit6AtHl [], decodeEncode .illegalED []⟩

end Sys2Proof.Machine
end

section
/-!
PROOFS. 8-bit arithmetic and logic: the adder, the subtracter, INC, DEC and DAA as integers, what a
row that sets the flags leaves alone, and how the rows are encoded.
-/

namespace Sys2Proof

/-- The 3-bit code of an operation on A (R310). -/
def AluOp.code (o : AluOp) : BitVec 3 :=
  match o with
  | .add => 0b000#3
  | .adc => 0b001#3
  | .sub => 0b010#3
  | .sbc => 0b011#3
  | .and => 0b100#3
  | .xor => 0b101#3
  | .or => 0b110#3
  | .cp => 0b111#3

/-- The state with a byte written to what an 8-bit operand names (R310). -/
def Operand8.write (x : Operand8) (v : Byte) (s : Machine.State) : Machine.State :=
  match x with
  | .reg r => s.setReg8 r v
  | .atHl => Machine.memWrite s.hl v s

namespace Machine

/-! ## Rows that set the four flags -/

theorem hasFlags_setFlags (z n h c : Bool) (t : State) (m : Nat) :
    HasFlags z n h c ((t.setFlags z n h c).setCycles m) :=
  ⟨flagZ_packFlags z n h c, flagN_packFlags z n h c, flagH_packFlags z n h c,
    flagC_packFlags z n h c, packFlags_and_low z n h c⟩

/-- An operand's write is not undone by the flags and the count that follow it. -/
theorem writes_setFlags (x : Operand8) (v : Byte) (z n h c : Bool) (m : Nat) (s : State) :
    Writes x v s (((x.write v s).setFlags z n h c).setCycles m) := by
  cases x with
  | reg r =>
    have hkept : Kept [r] s (((s.setReg8 r v).setFlags z n h c).setCycles m) :=
      ((((PlainTouched.refl s).setReg8 r v).setFlags z n h c).setCycles m).kept fun r' hr => by
        rw [State.reg8_setCycles, State.reg8_setFlags, State.reg8_setReg8,
          if_neg (by simpa using hr)]
    exact ⟨by simp [Operand8.write], hkept.registersOnly (by simp) (by simp) (by simp)⟩
  | atHl =>
    have hkept : Kept [] s (((memWrite s.hl v s).setFlags z n h c).setCycles m) :=
      ((((PlainTouched.refl s).memWrite s.hl v).setFlags z n h c).setCycles m).kept fun r _ => by
        rw [State.reg8_setCycles, State.reg8_setFlags, State.reg8_congr (memWrite_cpu s.hl v s)]
    exact ⟨{ hkept with sp := by simp [Operand8.write], pc := by simp [Operand8.write] },
      hkept.stored rfl⟩

section

variable {i : Instr} {s : State} {z n h c : Bool} {m : Nat}

/-- A row that sets the flags and nothing else. -/
theorem exec_of_setFlags (hi : exec i s = retire m (s.setFlags z n h c)) :
    ∃ t, exec i s = .next t ∧ HasFlags z n h c t ∧ RegistersOnly [] s t ∧ t.mcycles = m := by
  have hkept : Kept [] s ((s.setFlags z n h c).setCycles m) :=
    (((PlainTouched.refl s).setFlags z n h c).setCycles m).kept fun r _ => by simp
  exact ⟨_, hi, hasFlags_setFlags z n h c s m, hkept.registersOnly rfl rfl rfl, rfl⟩

/-- A row that writes its operand and sets the flags. -/
theorem exec_of_write {x : Operand8} {v : Byte}
    (hi : exec i s = retire m ((x.write v s).setFlags z n h c)) :
    ∃ t, exec i s = .next t ∧ Writes x v s t ∧ HasFlags z n h c t ∧ t.mcycles = m :=
  ⟨_, hi, writes_setFlags x v z n h c m s, hasFlags_setFlags z n h c _ m, rfl⟩

/-- A row that writes A and sets the flags. -/
theorem exec_of_setA {v : Byte} (hi : exec i s = retire m ((s.setReg8 .a v).setFlags z n h c)) :
    ∃ t, exec i s = .next t ∧ t.cpu.a = v ∧ HasFlags z n h c t ∧ RegistersOnly [.a] s t ∧
      t.mcycles = m := by
  obtain ⟨t, ht, ⟨ha, honly⟩, hflags, hm⟩ := exec_of_write (x := .reg .a) hi
  exact ⟨t, ht, ha, hflags, honly, hm⟩

end

/-! ## The adder and the subtracter as integers (R501) -/

theorem byte_eq_zero_iff (v : Byte) : v = 0x00#8 ↔ v.toNat = 0 :=
  BitVec.toNat_inj.symm

/-- Bits 3:0 of a byte as an integer. -/
theorem lowNibble_toNat (v : Byte) : (v &&& 0x0F#8).toNat = v.toNat % 16 :=
  and_lowMask_toNat v (n := 4) (m := 0x0F) rfl (by decide)

section

variable (a b : Byte) (cin : Bool)

/-- The 9-bit sum holds the whole of it. -/
theorem sum9_toNat :
    (a.zeroExtend 9 + b.zeroExtend 9 + (BitVec.ofBool cin).zeroExtend 9).toNat =
      a.toNat + b.toNat + cin.toNat := by
  have ha := a.isLt
  have hb := b.isLt
  have hcin := cin.toNat_le
  simp only [BitVec.toNat_add, BitVec.truncate_eq_setWidth, BitVec.toNat_setWidth,
    BitVec.toNat_ofBool]
  omega

theorem add8_r : (add8 a b cin).r.toNat = (a.toNat + b.toNat + cin.toNat) % 256 := by
  rw [add8, BitVec.extractLsb'_toNat, sum9_toNat]
  rfl

theorem add8_z : (add8 a b cin).z = decide ((a.toNat + b.toNat + cin.toNat) % 256 = 0) := by
  rw [← add8_r]
  exact decide_eq_decide.mpr (byte_eq_zero_iff _)

theorem add8_h : (add8 a b cin).h = decide (15 < a.toNat % 16 + b.toNat % 16 + cin.toNat) := by
  rw [add8, lowNibble_toNat, lowNibble_toNat]

theorem add8_c : (add8 a b cin).c = decide (255 < a.toNat + b.toNat + cin.toNat) := by
  have ha := a.isLt
  have hb := b.isLt
  have hcin := cin.toNat_le
  rw [add8, BitVec.getLsbD, sum9_toNat, Nat.testBit_eq_decide_div_mod_eq]
  exact decide_eq_decide.mpr (by omega)

theorem sub8_r :
    ((sub8 a b cin).r.toNat : Int) = ((a.toNat : Int) - b.toNat - cin.toNat) % 256 := by
  have ha := a.isLt
  have hb := b.isLt
  have hcin := cin.toNat_le
  simp only [sub8, BitVec.toNat_sub, BitVec.truncate_eq_setWidth, BitVec.toNat_setWidth,
    BitVec.toNat_ofBool]
  omega

theorem sub8_z :
    (sub8 a b cin).z = decide (((a.toNat : Int) - b.toNat - cin.toNat) % 256 = 0) := by
  rw [← sub8_r]
  exact decide_eq_decide.mpr ((byte_eq_zero_iff _).trans Int.natCast_eq_zero.symm)

theorem sub8_h : (sub8 a b cin).h = decide (a.toNat % 16 < b.toNat % 16 + cin.toNat) := by
  rw [sub8, lowNibble_toNat, lowNibble_toNat]

end

/-! ## The operations on A (R510-R533) -/

theorem encode_alu (o : AluOp) (x : Operand8) :
    encode (.alu o x) = [0b10#2 ++ o.code ++ x.code] := by
  cases x with
  | atHl => cases o <;> rfl
  | reg r => cases o <;> cases r <;> rfl

theorem exec_alu (o : AluOp) (x : Operand8) (s : State) :
    exec (.alu o x) s = aluA o (x.value s) (x.count 1 2) s := by
  cases x with
  | atHl => cases o <;> rfl
  | reg r => cases o <;> cases r <;> rfl

section

variable {i : Instr} {s : State} {m : Nat}

/-- The state with the result of an 8-bit operation in A and its flags in F. -/
def State.setAluOut (s : State) (out : AluOut) : State :=
  (s.setReg8 .a out.r).setFlags out.z out.n out.h out.c

/-- A row that leaves the adder's result and flags is the sum of R501. -/
theorem exec_of_add8 {b : Byte} {cin : Bool}
    (hi : exec i s = retire m (s.setAluOut (add8 s.cpu.a b cin))) :
    ∃ t, exec i s = .next t ∧ SumToA b cin.toNat s t ∧ RegistersOnly [.a] s t ∧
      t.mcycles = m := by
  obtain ⟨t, ht, ha, hflags, honly, hm⟩ := exec_of_setA hi
  rw [add8_z, add8_h, add8_c] at hflags
  exact ⟨t, ht, ⟨by rw [ha, add8_r], hflags⟩, honly, hm⟩

/-- The subtracter's flags are those of the difference of R501. -/
theorem differenceFlags_of_sub8 {b : Byte} {cin : Bool} {t : State}
    (h : HasFlags (sub8 s.cpu.a b cin).z (sub8 s.cpu.a b cin).n (sub8 s.cpu.a b cin).h
      (sub8 s.cpu.a b cin).c t) : DifferenceFlags b cin.toNat s t := by
  rw [sub8_z, sub8_h] at h
  exact h

/-- A row that leaves the subtracter's result and flags is the difference of R501. -/
theorem exec_of_sub8 {b : Byte} {cin : Bool}
    (hi : exec i s = retire m (s.setAluOut (sub8 s.cpu.a b cin))) :
    ∃ t, exec i s = .next t ∧ DifferenceToA b cin.toNat s t ∧ RegistersOnly [.a] s t ∧
      t.mcycles = m := by
  obtain ⟨t, ht, ha, hflags, honly, hm⟩ := exec_of_setA hi
  exact ⟨t, ht, ⟨by rw [ha, sub8_r], differenceFlags_of_sub8 hflags⟩, honly, hm⟩

/-- A row of CP sets the subtracter's flags and drops its result (R531). -/
theorem exec_of_cp {b : Byte} (hi : exec i s = aluA .cp b m s) :
    ∃ t, exec i s = .next t ∧ DifferenceFlags b 0 s t ∧ RegistersOnly [] s t ∧
      t.mcycles = m := by
  obtain ⟨t, ht, hflags, honly, hm⟩ := exec_of_setFlags hi
  exact ⟨t, ht, differenceFlags_of_sub8 hflags, honly, hm⟩

/-- A row that leaves a bitwise result: each bit is the operation's, and Z is read off the result
(R522-R530). -/
theorem exec_of_logic8 {r b : Byte} {h : Bool} {op : Bool → Bool → Bool}
    (hi : exec i s = retire m (s.setAluOut (logic8 r h)))
    (hr : ∀ k, r.getLsbD k = op (s.cpu.a.getLsbD k) (b.getLsbD k)) :
    ∃ t, exec i s = .next t ∧
      (∀ k, k < 8 → t.cpu.a.getLsbD k = op (s.cpu.a.getLsbD k) (b.getLsbD k)) ∧
      HasFlags (decide (t.cpu.a = 0x00#8)) false h false t ∧ RegistersOnly [.a] s t ∧
      t.mcycles = m := by
  obtain ⟨t, ht, rfl, hflags, honly, hm⟩ := exec_of_setA hi
  exact ⟨t, ht, fun k _ => hr k, hflags, honly, hm⟩

end

/-- Settles O43: every form is the adder on A and the operand, with F.CY for ADC. -/
theorem addAndAdc : Obligations.AddAndAdc := fun s x n =>
  ⟨⟨encode_alu .add x, exec_of_add8 (cin := false) (exec_alu .add x s)⟩,
    ⟨rfl, exec_of_add8 (cin := false) (b := n) rfl⟩,
    ⟨encode_alu .adc x, exec_of_add8 (exec_alu .adc x s)⟩,
    rfl, exec_of_add8 (b := n) (cin := s.fCY) rfl⟩

/-- Settles O44: every form is the subtracter on A and the operand, with F.CY for SBC. -/
theorem subtract : Obligations.Subtract := fun s x n =>
  ⟨⟨encode_alu .sub x, exec_of_sub8 (cin := false) (exec_alu .sub x s)⟩,
    ⟨rfl, exec_of_sub8 (cin := false) (b := n) rfl⟩,
    ⟨encode_alu .sbc x, exec_of_sub8 (exec_alu .sbc x s)⟩,
    ⟨rfl, exec_of_sub8 (b := n) (cin := s.fCY) rfl⟩,
    ⟨encode_alu .cp x, exec_of_cp (exec_alu .cp x s)⟩,
    rfl, exec_of_cp (b := n) rfl⟩

/-- Settles O45, row by row: A takes the bitwise result, whose bits are the operation's. -/
theorem logic : Obligations.Logic := by
  intro s x n
  simp only [List.forall_mem_cons]
  exact ⟨⟨⟨encode_alu .and x, exec_of_logic8 (exec_alu .and x s) fun _ => BitVec.getLsbD_and⟩,
      rfl, exec_of_logic8 (r := s.cpu.a &&& n) rfl fun _ => BitVec.getLsbD_and⟩,
    ⟨⟨encode_alu .xor x, exec_of_logic8 (exec_alu .xor x s) fun _ => BitVec.getLsbD_xor⟩,
      rfl, exec_of_logic8 (r := s.cpu.a ^^^ n) rfl fun _ => BitVec.getLsbD_xor⟩,
    ⟨⟨encode_alu .or x, exec_of_logic8 (exec_alu .or x s) fun _ => BitVec.getLsbD_or⟩,
      rfl, exec_of_logic8 (r := s.cpu.a ||| n) rfl fun _ => BitVec.getLsbD_or⟩,
    List.forall_mem_nil _⟩

/-! ## INC and DEC (R540-R543) -/

theorem encode_inc8 (x : Operand8) : encode (.inc8 x) = [0b00#2 ++ x.code ++ 0b100#3] := by
  cases x with
  | atHl => rfl
  | reg r => cases r <;> rfl

theorem encode_dec8 (x : Operand8) : encode (.dec8 x) = [0b00#2 ++ x.code ++ 0b101#3] := by
  cases x with
  | atHl => rfl
  | reg r => cases r <;> rfl

theorem incOut_z (o : Byte) (cy : Bool) : (incOut o cy).z = decide (o.toNat = 255) :=
  decide_eq_decide.mpr (by bv_omega)

theorem decOut_z (o : Byte) (cy : Bool) : (decOut o cy).z = decide (o.toNat = 1) :=
  decide_eq_decide.mpr (by bv_omega)

theorem incOut_h (o : Byte) (cy : Bool) : (incOut o cy).h = decide (o.toNat % 16 = 15) := by
  rw [incOut, ← lowNibble_toNat]
  exact decide_eq_decide.mpr BitVec.toNat_inj.symm

theorem decOut_h (o : Byte) (cy : Bool) : (decOut o cy).h = decide (o.toNat % 16 = 0) := by
  rw [decOut, ← lowNibble_toNat]
  exact decide_eq_decide.mpr BitVec.toNat_inj.symm

theorem exec_inc8 (x : Operand8) (s : State) :
    exec (.inc8 x) s = retire (x.count 1 3) ((x.write (x.value s + 1#8) s).setFlags
      (decide ((x.value s).toNat = 255)) false (decide ((x.value s).toNat % 16 = 15)) s.fCY) := by
  rw [← incOut_z _ s.fCY, ← incOut_h _ s.fCY]
  cases x with
  | atHl => rfl
  | reg r => cases r <;> rfl

theorem exec_dec8 (x : Operand8) (s : State) :
    exec (.dec8 x) s = retire (x.count 1 3) ((x.write (x.value s - 1#8) s).setFlags
      (decide ((x.value s).toNat = 1)) true (decide ((x.value s).toNat % 16 = 0)) s.fCY) := by
  rw [← decOut_z _ s.fCY, ← decOut_h _ s.fCY]
  cases x with
  | atHl => rfl
  | reg r => cases r <;> rfl

/-- Settles O46: every form writes its operand and keeps CY. -/
theorem incDec : Obligations.IncDec := fun s x =>
  ⟨⟨encode_inc8 x, exec_of_write (exec_inc8 x s)⟩, encode_dec8 x, exec_of_write (exec_dec8 x s)⟩

/-! ## DAA (R550) -/

section

variable (a : Byte) (h cy : Bool)

theorem ite_add_toNat (c : Prop) [Decidable c] (v k : Byte) :
    (if c then v + k else v).toNat = (v.toNat + if c then k.toNat else 0) % 256 := by
  split
  · exact BitVec.toNat_add v k
  · exact (Nat.mod_eq_of_lt v.isLt).symm

theorem ite_sub_toNat (c : Prop) [Decidable c] (v k : Byte) :
    ((if c then v - k else v).toNat : Int) =
      ((v.toNat : Int) - if c then (k.toNat : Int) else 0) % 256 := by
  split <;> bv_omega

/-- After an addition DAA adds 0x60 and 6; adding 0x60 does not move the low digit, so both are
decided by the old A. -/
theorem daaOut_r_of_add : (daaOut a false h cy).r.toNat =
    (a.toNat + (if cy = true ∨ 0x99 < a.toNat then 0x60 else 0) +
      (if h = true ∨ 9 < a.toNat % 16 then 6 else 0)) % 256 := by
  have hdigit : ∀ (c : Prop) [Decidable c],
      (a.toNat + if c then 0x60 else 0) % 256 % 16 = a.toNat % 16 := by
    intro c _
    split <;> omega
  simp only [daaOut, Bool.false_eq_true, if_false, Bool.or_eq_true, decide_eq_true_eq,
    BitVec.lt_def, lowNibble_toNat, ite_add_toNat, BitVec.toNat_ofNat, Nat.reducePow,
    Nat.reduceMod, hdigit, Nat.mod_add_mod]

/-- After a subtraction DAA takes 0x60 and 6 away as the borrows ask. -/
theorem daaOut_r_of_sub : ((daaOut a true h cy).r.toNat : Int) =
    ((a.toNat : Int) - (if cy = true then 0x60 else 0) - (if h = true then 6 else 0)) % 256 := by
  simp only [daaOut, if_true, ite_sub_toNat, BitVec.toNat_ofNat, Int.emod_sub_emod]
  rfl

end

theorem exec_daa (s : State) :
    exec .daa s = retire 1 (s.setAluOut (daaOut s.cpu.a s.fN s.fH s.fCY)) := rfl

/-- Settles O47: after an addition and after a subtraction. -/
theorem daaAdjustsA : Obligations.DaaAdjustsA := by
  intro s
  obtain ⟨t, ht, ha, hflags, honly, hm⟩ := exec_of_setA (exec_daa s)
  refine ⟨rfl, t, ht, honly, hm, fun hn => ?_, fun hn => ?_⟩
  · rw [hn] at ha hflags
    rw [ha]
    exact ⟨daaOut_r_of_add _ _ _, hflags⟩
  · rw [hn] at ha hflags
    rw [ha]
    exact ⟨daaOut_r_of_sub _ _ _, hflags⟩

/-- The two decimal digits of a number below 100, one to a nibble. -/
def bcd (x : Nat) : Nat := x / 10 * 16 + x % 10

section

variable {x y : Nat}

/-- A binary sum of BCD numbers is past 0x99 exactly when the decimal sum is past 99. -/
theorem bcd_add_carry :
    255 < bcd x + bcd y ∨ 0x99 < (bcd x + bcd y) % 256 ↔ 100 ≤ x + y := by
  have hbyte : 255 < bcd x + bcd y ∨ 0x99 < (bcd x + bcd y) % 256 ↔ 0x99 < bcd x + bcd y := by
    omega
  have htens : x / 10 + y / 10 ≤ 9 ∨ 10 ≤ x / 10 + y / 10 := le_or_gt _ 9
  rw [hbyte, bcd, bcd]
  omega

/-- A low digit that carries or is past 9 is a decimal digit sum past 9. -/
theorem bcd_add_halfCarry :
    15 < bcd x % 16 + bcd y % 16 ∨ 9 < (bcd x + bcd y) % 256 % 16 ↔ 10 ≤ x % 10 + y % 10 := by
  simp only [bcd]
  omega

/-- With 0x60 and 6 added for the two decimal carries, the binary sum is the BCD of the decimal
sum modulo 100. -/
theorem bcd_add_adjusted (hx : x < 100) (hy : y < 100) :
    ((bcd x + bcd y) % 256 + (if 100 ≤ x + y then 0x60 else 0) +
      (if 10 ≤ x % 10 + y % 10 then 6 else 0)) % 256 = bcd ((x + y) % 100) := by
  simp only [bcd]
  split_ifs <;> omega

end

/-- Settles O48: DAA adds 0x60 and 6 exactly for the decimal carries of the two digits. -/
theorem decimalAddition : Obligations.DecimalAddition := by
  intro s x y hx hy ha
  have hy' : (BitVec.ofNat 8 (bcd y)).toNat = bcd y :=
    Nat.mod_eq_of_lt (by simp only [bcd]; omega)
  obtain ⟨t, ht, ⟨hta, htf⟩, -, -⟩ :=
    exec_of_add8 (i := .addAD8 (BitVec.ofNat 8 (bcd y))) (s := s) (cin := false) rfl
  obtain ⟨-, u, hu, -, -, hadd, -⟩ := daaAdjustsA t
  obtain ⟨hua, huf⟩ := hadd htf.n
  change s.cpu.a.toNat = bcd x at ha
  simp only [Bool.toNat_false, Nat.add_zero, hy', ha] at hta htf
  have hcy : t.fCY = true ∨ 0x99 < t.cpu.a.toNat ↔ 100 ≤ x + y := by
    rw [htf.c, decide_eq_true_iff, hta]
    exact bcd_add_carry
  have hh : t.fH = true ∨ 9 < t.cpu.a.toNat % 16 ↔ 10 ≤ x % 10 + y % 10 := by
    rw [htf.h, decide_eq_true_iff, hta]
    exact bcd_add_halfCarry
  refine ⟨t, u, ht, hu, ?_, ?_⟩
  · rw [hua]
    simp only [hcy, hh]
    rw [hta, bcd_add_adjusted hx hy, bcd, Nat.mod_mod_of_dvd _ (by decide)]
  · rw [huf.c, Bool.eq_iff_iff]
    simpa only [Bool.or_eq_true, decide_eq_true_iff] using hcy

/-! ## CPL, SCF and CCF (R551-R553) -/

theorem xor_ones_toNat (v : Byte) : (v ^^^ 0xFF#8).toNat = 255 - v.toNat := by
  change (v ^^^ BitVec.allOnes 8).toNat = _
  rw [BitVec.xor_allOnes, BitVec.toNat_not]

/-- Settles O49: CPL writes A and the flags, SCF and CCF the flags alone. -/
theorem complementAndCarry : Obligations.ComplementAndCarry := by
  intro s
  obtain ⟨t, ht, ha, hrest⟩ := exec_of_setA (i := .cpl) (s := s) rfl
  exact ⟨⟨rfl, t, ht, ha ▸ xor_ones_toNat s.cpu.a, hrest⟩, ⟨rfl, exec_of_setFlags rfl⟩,
    rfl, exec_of_setFlags rfl⟩

end Machine

end Sys2Proof
end

section
/-!
PROOFS. 16-bit arithmetic: INC and DEC of a pair, ADD HL and SP plus a signed byte as integers, what
these rows leave alone, and how they are encoded.
-/

namespace Sys2Proof.Machine

/-! ## The adders as integers (R603-R605) -/

/-- The low bits of a word as an integer. -/
theorem word_and_lowMask_toNat (v m : Word) {n : Nat} (hm : m.toNat = 2 ^ n - 1) :
    (v &&& m).toNat = v.toNat % 2 ^ n := by
  rw [BitVec.toNat_and, hm, Nat.and_two_pow_sub_one_eq_mod]

section

variable (a b : Word)

/-- The 17-bit sum holds the whole of it. -/
theorem sum17_toNat : (a.zeroExtend 17 + b.zeroExtend 17).toNat = a.toNat + b.toNat := by
  have ha := a.isLt
  have hb := b.isLt
  simp only [BitVec.toNat_add, BitVec.truncate_eq_setWidth, BitVec.toNat_setWidth]
  omega

theorem add16_r : (add16 a b).r.toNat = (a.toNat + b.toNat) % 65536 := by
  rw [add16, BitVec.extractLsb'_toNat, sum17_toNat]
  rfl

theorem add16_h : (add16 a b).h = decide (4095 < a.toNat % 4096 + b.toNat % 4096) := by
  rw [add16, word_and_lowMask_toNat a 0x0FFF#16 (n := 12) rfl,
    word_and_lowMask_toNat b 0x0FFF#16 (n := 12) rfl]
  rfl

theorem add16_c : (add16 a b).c = decide (65535 < a.toNat + b.toNat) := by
  have ha := a.isLt
  have hb := b.isLt
  rw [add16, BitVec.getLsbD, sum17_toNat, Nat.testBit_eq_decide_div_mod_eq]
  exact decide_eq_decide.mpr (by omega)

end

section

variable (sp : Word) (e : Byte)

/-- The sign extension adds the byte's signed value modulo 2^16. -/
theorem addSpOut_r : ((addSpOut sp e).r.toNat : Int) = ((sp.toNat : Int) + e.toInt) % 65536 := by
  rw [addSpOut, sext16, BitVec.signExtend, BitVec.toNat_add, BitVec.toNat_ofInt]
  omega

theorem addSpOut_h : (addSpOut sp e).h = decide (15 < sp.toNat % 16 + e.toNat % 16) := by
  rw [addSpOut, word_and_lowMask_toNat sp 0x000F#16 (n := 4) rfl, lowNibble_toNat]
  rfl

theorem addSpOut_c : (addSpOut sp e).c = decide (255 < sp.toNat % 256 + e.toNat) := by
  rw [addSpOut, word_and_lowMask_toNat sp 0x00FF#16 (n := 8) rfl]
  rfl

end

/-! ## Rows that write a pair or SP -/

section

variable {i : Instr} {s : State} {m : Nat}

/-- A row that writes a pair or SP and no flag. -/
theorem exec_of_setReg16 {rr : Reg16} {v : Word} (hi : exec i s = retire m (s.setReg16 rr v)) :
    ∃ t, exec i s = .next t ∧ t.reg16 rr = v ∧ Kept rr.parts s t ∧
      (rr ≠ .sp → t.cpu.sp = s.cpu.sp) ∧ t.cpu.pc = s.cpu.pc ∧ SameMemory s t ∧
      t.cpu.f = s.cpu.f ∧ t.mcycles = m := by
  have hkept : Kept rr.parts s ((s.setReg16 rr v).setCycles m) :=
    (((PlainTouched.refl s).setReg16 rr v).setCycles m).kept fun r hr => by
      rw [State.reg8_setCycles, State.reg8_setReg16_of_not_mem hr]
  exact ⟨_, hi, (State.reg16_congr rfl rr).trans (State.reg16_setReg16_same s rr v), hkept,
    fun hrr => State.setReg16_sp hrr s v, by simp, hkept.sameMemory (by simp), by simp, rfl⟩

/-- A row that steps a pair or SP adds its step modulo 2^16 (R601, R602). -/
theorem exec_of_stepPair {rr : Reg16} {delta : Word} {k : Nat}
    (hi : exec i s = stepPair rr delta s) (hk : delta.toNat = k) :
    ∃ t, exec i s = .next t ∧ (t.reg16 rr).toNat = ((s.reg16 rr).toNat + k) % 65536 ∧
      Kept rr.parts s t ∧ (rr ≠ .sp → t.cpu.sp = s.cpu.sp) ∧ t.cpu.pc = s.cpu.pc ∧
      SameMemory s t ∧ t.cpu.f = s.cpu.f ∧ t.mcycles = 2 := by
  obtain ⟨t, ht, hreg, hrest⟩ := exec_of_setReg16 hi
  exact ⟨t, ht, by rw [hreg, BitVec.toNat_add, hk], hrest⟩

variable {v : Word} {z n h c : Bool}

/-- A row that writes HL and sets the flags. -/
theorem exec_of_setHl (hi : exec i s = retire m ((s.setReg16 .hl v).setFlags z n h c)) :
    ∃ t, exec i s = .next t ∧ t.hl = v ∧ HasFlags z n h c t ∧ RegistersOnly [.h, .l] s t ∧
      t.mcycles = m := by
  have hkept : Kept [.h, .l] s (((s.setReg16 .hl v).setFlags z n h c).setCycles m) :=
    ((((PlainTouched.refl s).setReg16 .hl v).setFlags z n h c).setCycles m).kept fun r hr => by
      rw [State.reg8_setCycles, State.reg8_setFlags,
        State.reg8_setReg16_of_not_mem (rr := .hl) hr]
  exact ⟨_, hi, State.reg16_setReg16_same s .hl v, hasFlags_setFlags z n h c _ m,
    hkept.registersOnly rfl rfl rfl, rfl⟩

/-- A row that writes SP and sets the flags. -/
theorem exec_of_setSp (hi : exec i s = retire m ((s.setSp v).setFlags z n h c)) :
    ∃ t, exec i s = .next t ∧ t.cpu.sp = v ∧ HasFlags z n h c t ∧ Kept [] s t ∧
      t.cpu.pc = s.cpu.pc ∧ SameMemory s t ∧ t.mcycles = m := by
  have hkept : Kept [] s (((s.setSp v).setFlags z n h c).setCycles m) :=
    ((((PlainTouched.refl s).setSp v).setFlags z n h c).setCycles m).kept fun r _ => by
      rw [State.reg8_setCycles, State.reg8_setFlags, State.reg8_setSp]
  exact ⟨_, hi, rfl, hasFlags_setFlags z n h c _ m, hkept, rfl, hkept.sameMemory rfl, rfl⟩

end

/-! ## INC and DEC of a pair, and ADD HL (R601-R603) -/

section

variable (rr : Reg16)

theorem encode_inc16 : encode (.inc16 rr) = [0b00#2 ++ rr.code ++ 0b0011#4] := by
  cases rr <;> rfl

theorem encode_dec16 : encode (.dec16 rr) = [0b00#2 ++ rr.code ++ 0b1011#4] := by
  cases rr <;> rfl

theorem encode_addHl : encode (.addHl rr) = [0b00#2 ++ rr.code ++ 0b1001#4] := by
  cases rr <;> rfl

variable (s : State)

theorem exec_inc16 : exec (.inc16 rr) s = stepPair rr 0x0001#16 s := by
  cases rr <;> rfl

theorem exec_dec16 : exec (.dec16 rr) s = stepPair rr 0xFFFF#16 s := by
  cases rr <;> rfl

theorem exec_addHl : exec (.addHl rr) s = addHlPair rr s := by
  cases rr <;> rfl

end

/-- Settles O50: INC and DEC add 1 and 0xFFFF modulo 2^16, and ADD HL leaves the 16-bit adder's
result and carries. -/
theorem pairArithmetic : Obligations.PairArithmetic := by
  intro s rr
  obtain ⟨t, ht, hhl, hflags, hrest⟩ := exec_of_setHl (exec_addHl rr s)
  rw [add16_h, add16_c] at hflags
  exact ⟨⟨encode_inc16 rr, exec_of_stepPair (exec_inc16 rr s) rfl⟩,
    ⟨encode_dec16 rr, exec_of_stepPair (exec_dec16 rr s) rfl⟩,
    encode_addHl rr, t, ht, by rw [hhl, add16_r], hflags, hrest⟩

/-! ## SP plus a signed byte (R604, R605) -/

/-- Settles O51: both rows leave the result and the carries of SP plus the byte. -/
theorem spArithmetic : Obligations.SpArithmetic := by
  intro s e
  obtain ⟨t, ht, hsp, htflags, htrest⟩ := exec_of_setSp (i := .addSpE8 e) (s := s) rfl
  obtain ⟨u, hu, hhl, huflags, hurest⟩ := exec_of_setHl (i := .ldHlSpE8 e) (s := s) rfl
  rw [addSpOut_h, addSpOut_c] at htflags huflags
  exact ⟨⟨rfl, t, ht, by rw [hsp, addSpOut_r], htflags, htrest⟩,
    rfl, u, hu, by rw [hhl, addSpOut_r], huflags, hurest⟩

end Sys2Proof.Machine
end

section
/-!
PROOFS. Rotates, shifts and SWAP: each result and carry as an integer, what a row leaves alone, and
how the rows are encoded.
-/

namespace Sys2Proof

/-- The result of a rotate or shift of `v` with carry-in `cy`, as an integer (R700). -/
def RotOp.result (o : RotOp) (v cy : Nat) : Nat :=
  match o with
  | .rlc => v * 2 % 256 + v / 128
  | .rrc => v / 2 + v % 2 * 128
  | .rl => v * 2 % 256 + cy
  | .rr => v / 2 + cy * 128
  | .sla => v * 2 % 256
  | .sra => v / 2 + v / 128 * 128
  | .swap => v % 16 * 16 + v / 16
  | .srl => v / 2

/-- The bit of `v` that a rotate or shift moves out, 0 for SWAP (R700). -/
def RotOp.carry (o : RotOp) (v : Nat) : Bool :=
  match o with
  | .rlc | .rl | .sla => decide (128 ≤ v)
  | .rrc | .rr | .sra | .srl => decide (v % 2 = 1)
  | .swap => false

namespace Machine

/-! ## The table of R700 as integers -/

/-- Concatenation puts the high part above the low part's bits. -/
theorem append_toNat {m n : Nat} (hi : BitVec m) (lo : BitVec n) :
    (hi ++ lo).toNat = hi.toNat * 2 ^ n + lo.toNat := by
  rw [BitVec.toNat_append, ← Nat.shiftLeft_add_eq_or_of_lt lo.isLt, Nat.shiftLeft_eq]

section

variable (o : RotOp) (v : Byte) (cy : Bool)

/-- Each result joins bit fields of `v`, and a bit field is a quotient modulo a power of 2. -/
theorem rotOut_fst_toNat : (rotOut o v cy).1.toNat = o.result v.toNat cy.toNat := by
  have hv := v.isLt
  cases o <;>
    simp only [rotOut, RotOp.result, append_toNat, BitVec.extractLsb'_toNat, BitVec.toNat_ofBool,
      BitVec.toNat_ofNat, Nat.shiftRight_eq_div_pow] <;>
    omega

theorem rotOut_fst : (rotOut o v cy).1 = BitVec.ofNat 8 (o.result v.toNat cy.toNat) := by
  rw [← rotOut_fst_toNat, BitVec.ofNat_toNat, BitVec.setWidth_eq]

theorem rotOut_z :
    decide ((rotOut o v cy).1 = 0x00#8) = decide (o.result v.toNat cy.toNat = 0) := by
  rw [← rotOut_fst_toNat]
  exact decide_eq_decide.mpr (byte_eq_zero_iff _)

theorem rotOut_snd : (rotOut o v cy).2 = o.carry v.toNat := by
  cases o with
  | rlc | rl | sla => exact v.msb_eq_getLsbD_last.symm.trans v.msb_eq_decide
  | rrc | rr | sra | srl => exact Nat.testBit_zero v.toNat
  | swap => rfl

end

/-! ## RLCA, RRCA, RLA and RRA (R701-R704) -/

/-- A row that rotates A: the result and the carry are the table's, and Z is 0. -/
theorem exec_of_rotA {i : Instr} {o : RotOp} {s : State} (hi : exec i s = rotA o s) :
    ∃ t, exec i s = .next t ∧ t.cpu.a.toNat = o.result s.cpu.a.toNat s.fCY.toNat ∧
      HasFlags false false false (o.carry s.cpu.a.toNat) t ∧ RegistersOnly [.a] s t ∧
      t.mcycles = 1 := by
  obtain ⟨t, ht, ha, hflags, hrest⟩ := exec_of_setA hi
  rw [rotOut_snd] at hflags
  exact ⟨t, ht, by rw [ha, rotOut_fst_toNat], hflags, hrest⟩

/-- Settles O52, row by row: each row is its operation of R700 on A, with Z cleared. -/
theorem rotateA : Obligations.RotateA := by
  intro s a cy
  simp only [List.forall_mem_cons]
  exact ⟨⟨rfl, exec_of_rotA (o := .rlc) rfl⟩, ⟨rfl, exec_of_rotA (o := .rrc) rfl⟩,
    ⟨rfl, exec_of_rotA (o := .rl) rfl⟩, ⟨rfl, exec_of_rotA (o := .rr) rfl⟩,
    List.forall_mem_nil _⟩

/-! ## The CB rotates and shifts (R700) -/

theorem encode_rot (o : RotOp) (x : Operand8) :
    encode (.rot o x) = [0xCB#8, 0b00#2 ++ o.code ++ x.code] := by
  cases x with
  | atHl => cases o <;> rfl
  | reg r => cases o <;> cases r <;> rfl

/-- Every row writes the table's result to its operand and sets Z from it and CY from the bit moved
out. -/
theorem exec_rot (o : RotOp) (x : Operand8) (s : State) :
    exec (.rot o x) s = retire (x.count 2 4)
      ((x.write (BitVec.ofNat 8 (o.result (x.value s).toNat s.fCY.toNat)) s).setFlags
        (decide (o.result (x.value s).toNat s.fCY.toNat = 0)) false false
        (o.carry (x.value s).toNat)) := by
  rw [← rotOut_fst, ← rotOut_z, ← rotOut_snd _ _ s.fCY]
  cases x with
  | atHl => cases o <;> rfl
  | reg r => cases o <;> cases r <;> rfl

/-- Settles O53: every row is its operation of R700 on its operand. -/
theorem rotateShift : Obligations.RotateShift := fun s o x =>
  ⟨encode_rot o x, exec_of_write (exec_rot o x s)⟩

end Machine

end Sys2Proof
end

section
/-!
PROOFS. BIT, RES and SET: the bit tested, cleared or set as an integer, what a row leaves alone, and
how the rows are encoded.
-/

namespace Sys2Proof.Machine

/-! ## One bit of a byte as an integer -/

theorem bitMask_toNat (k : Num3) : (bitMask k).toNat = 2 ^ k.toNat := by
  cases k <;> rfl

/-- A mask and its complement split a byte into two parts with no bit in common. -/
theorem and_not_add_and (v m : Byte) : (v &&& ~~~m) + (v &&& m) = v := by
  have hdisjoint : (v &&& ~~~m) &&& (v &&& m) = 0#8 := by
    ext i
    cases h : m[i] <;> simp [h]
  rw [BitVec.add_eq_or_of_and_eq_zero _ _ hdisjoint]
  ext i
  cases h : m[i] <;> simp [h]

section

variable (k : Num3) (v : Byte)

theorem getLsbD_not_eq_decide :
    (!v.getLsbD k.toNat) = decide (v.toNat / 2 ^ k.toNat % 2 = 0) := by
  rw [BitVec.getLsbD, Nat.testBit_eq_decide_div_mod_eq, ← decide_not]
  exact decide_eq_decide.mpr (by omega)

theorem and_bitMask_toNat :
    (v &&& bitMask k).toNat = v.toNat / 2 ^ k.toNat % 2 * 2 ^ k.toNat := by
  rw [BitVec.toNat_and, bitMask_toNat, Nat.and_two_pow, Nat.toNat_testBit]

/-- Clearing a bit takes its weight off where it is 1. -/
theorem and_not_bitMask : v &&& ~~~bitMask k =
    BitVec.ofNat 8 (v.toNat - v.toNat / 2 ^ k.toNat % 2 * 2 ^ k.toNat) := by
  have hle : (v &&& bitMask k).toNat ≤ v.toNat := Nat.and_le_left
  rw [← and_bitMask_toNat, ← BitVec.ofNat_sub_ofNat_of_le _ _ (v &&& bitMask k).isLt hle]
  simpa only [BitVec.ofNat_toNat, BitVec.setWidth_eq] using
    BitVec.eq_sub_iff_add_eq.mpr (and_not_add_and v (bitMask k))

/-- Setting a bit adds its weight where it is 0. -/
theorem or_bitMask : v ||| bitMask k =
    BitVec.ofNat 8 (v.toNat + (1 - v.toNat / 2 ^ k.toNat % 2) * 2 ^ k.toNat) := by
  have hbit := and_bitMask_toNat k v
  rcases Nat.mod_two_eq_zero_or_one (v.toNat / 2 ^ k.toNat) with h | h <;> rw [h] at hbit ⊢
  · have hclear : v &&& bitMask k = 0#8 := BitVec.eq_of_toNat_eq (by simpa using hbit)
    rw [← BitVec.add_eq_or_of_and_eq_zero _ _ hclear, Nat.one_mul, BitVec.ofNat_add,
      ← bitMask_toNat]
    simp
  · have hset : v &&& bitMask k = bitMask k :=
      BitVec.eq_of_toNat_eq (by rw [hbit, Nat.one_mul, bitMask_toNat])
    calc v ||| bitMask k = v ||| (v &&& bitMask k) := by rw [hset]
      _ = v := by ext i; cases h : v[i] <;> simp [h]
      _ = _ := by simp

end

/-! ## Rows that write their operand and keep the flags -/

theorem exec_of_writeOnly {i : Instr} {s : State} {x : Operand8} {v : Byte} {m : Nat}
    (hi : exec i s = retire m (x.write v s)) :
    ∃ t, exec i s = .next t ∧ Writes x v s t ∧ t.cpu.f = s.cpu.f ∧ t.mcycles = m := by
  cases x with
  | reg r =>
    obtain ⟨t, ht, hr, honly, hrest⟩ := exec_of_setReg8 hi
    exact ⟨t, ht, ⟨hr, honly⟩, hrest⟩
  | atHl =>
    obtain ⟨t, ht, hstored, hkept, hrest⟩ := exec_of_memWrite hi
    exact ⟨t, ht, ⟨hkept, hstored⟩, hrest⟩

/-! ## BIT, RES and SET (R801-R806) -/

theorem encode_bit (k : Num3) (x : Operand8) :
    encode (.bit k x) = [0xCB#8, 0b01#2 ++ k.code ++ x.code] := by
  cases x with
  | atHl => cases k <;> rfl
  | reg r => cases k <;> cases r <;> rfl

theorem encode_res (k : Num3) (x : Operand8) :
    encode (.res k x) = [0xCB#8, 0b10#2 ++ k.code ++ x.code] := by
  cases x with
  | atHl => cases k <;> rfl
  | reg r => cases k <;> cases r <;> rfl

theorem encode_set (k : Num3) (x : Operand8) :
    encode (.set k x) = [0xCB#8, 0b11#2 ++ k.code ++ x.code] := by
  cases x with
  | atHl => cases k <;> rfl
  | reg r => cases k <;> cases r <;> rfl

theorem exec_bit (k : Num3) (x : Operand8) (s : State) :
    exec (.bit k x) s = retire (x.count 2 3) (s.setFlags
      (decide ((x.value s).toNat / 2 ^ k.toNat % 2 = 0)) false true s.fCY) := by
  rw [← getLsbD_not_eq_decide]
  cases x with
  | atHl => cases k <;> rfl
  | reg r => cases k <;> cases r <;> rfl

theorem exec_res (k : Num3) (x : Operand8) (s : State) :
    exec (.res k x) s = retire (x.count 2 4) (x.write (BitVec.ofNat 8
      ((x.value s).toNat - (x.value s).toNat / 2 ^ k.toNat % 2 * 2 ^ k.toNat)) s) := by
  rw [← and_not_bitMask]
  cases x with
  | atHl => cases k <;> rfl
  | reg r => cases k <;> cases r <;> rfl

theorem exec_set (k : Num3) (x : Operand8) (s : State) :
    exec (.set k x) s = retire (x.count 2 4) (x.write (BitVec.ofNat 8
      ((x.value s).toNat + (1 - (x.value s).toNat / 2 ^ k.toNat % 2) * 2 ^ k.toNat)) s) := by
  rw [← or_bitMask]
  cases x with
  | atHl => cases k <;> rfl
  | reg r => cases k <;> cases r <;> rfl

/-- Settles O54: BIT sets the flags alone, and RES and SET write the operand alone. -/
theorem bits : Obligations.Bits := fun s k x =>
  ⟨⟨encode_bit k x, exec_of_setFlags (exec_bit k x s)⟩,
    ⟨encode_res k x, exec_of_writeOnly (exec_res k x s)⟩,
    encode_set k x, exec_of_writeOnly (exec_set k x s)⟩

end Sys2Proof.Machine
end

section
/-!
PROOFS. Control transfer: what a conditional row does, the two operations that move pc and SP
together, how the rows are encoded, and that a return undoes a call.
-/

namespace Sys2Proof.Machine

/-! ## Conditions (R900) -/

theorem condHolds_iff (cc : Cond) (s : State) : condHolds cc s.cpu.f = true ↔ cc.holds s := by
  cases cc with
  | nz | nc => exact iff_of_eq (Bool.not_eq_true_eq_eq_false _)
  | z | c => exact Iff.rfl

/-- A conditional row runs one of two ways, by its condition. -/
theorem exec_of_conditional {i : Instr} {s : State} {cc : Cond} {taken notTaken : Result}
    (h : exec i s = if condHolds cc s.cpu.f then taken else notTaken) :
    (cc.holds s → exec i s = taken) ∧ (¬ cc.holds s → exec i s = notTaken) := by
  rw [h, ← condHolds_iff]
  exact ⟨fun hcc => if_pos hcc, fun hcc => if_neg hcc⟩

/-! ## Jumps (R901-R905) -/

section

variable (cc : Cond)

theorem encode_jpCond (hi lo : Byte) :
    encode (.jpCond cc (hi ++ lo)) = [0b110#3 ++ cc.code ++ 0b010#3, lo, hi] := by
  cases cc <;> exact enc3_append _ hi lo

theorem encode_jrCond (e : Byte) :
    encode (.jrCond cc e) = [0b001#3 ++ cc.code ++ 0b000#3, e] := by
  cases cc <;> rfl

theorem exec_jpCond (t : Word) (s : State) : exec (.jpCond cc t) s = jumpIf cc t s := by
  cases cc <;> rfl

theorem exec_jrCond (e : Byte) (s : State) : exec (.jrCond cc e) s = jumpRelIf cc e s := by
  cases cc <;> rfl

end

/-- The target of a relative jump is the integer sum modulo 2^16 (R904). -/
theorem add_sext16 (pc : Word) (e : Byte) :
    pc + sext16 e = BitVec.ofInt 16 ((pc.toNat : Int) + e.toInt) := by
  rw [BitVec.ofInt_add, BitVec.ofInt_natCast, BitVec.ofNat_toNat, BitVec.setWidth_eq]
  rfl

/-- Settles O55: a jump taken writes pc alone, and one not taken only counts its cycles. -/
theorem jumps : Obligations.Jumps := by
  intro s cc lo hi e
  refine ⟨⟨enc3_append _ hi lo, rfl⟩,
    ⟨encode_jpCond cc hi lo, exec_of_conditional (exec_jpCond cc _ s)⟩, ⟨rfl, rfl⟩, ⟨rfl, ?_⟩,
    encode_jrCond cc e, ?_⟩
  · rw [← add_sext16]
    rfl
  · rw [← add_sext16]
    exact exec_of_conditional (exec_jrCond cc e s)

/-! ## Calls and restarts (R910, R911, R920) -/

theorem encode_callCond (cc : Cond) (hi lo : Byte) :
    encode (.callCond cc (hi ++ lo)) = [0b110#3 ++ cc.code ++ 0b100#3, lo, hi] := by
  cases cc <;> exact enc3_append _ hi lo

theorem encode_rst (k : Num3) : encode (.rst k) = [0b11#2 ++ k.code ++ 0b111#3] := by
  cases k <;> rfl

/-- The state a call or a restart leaves: pc is pushed and becomes the target. -/
def called (target : Word) (n : Nat) (s : State) : State :=
  ((push16 s.cpu.pc s).setPc target).setCycles n

theorem exec_callA16 (t : Word) (s : State) : exec (.callA16 t) s = .next (called t 6 s) := rfl

theorem exec_callCond (cc : Cond) (t : Word) (s : State) :
    exec (.callCond cc t) s =
      if condHolds cc s.cpu.f then .next (called t 6 s) else retire 3 s := by
  cases cc <;> rfl

theorem exec_rst (k : Num3) (s : State) :
    exec (.rst k) s = .next (called (rstTarget k) 4 s) := by
  cases k <;> rfl

section

variable (target : Word) (n : Nat) (s : State)

@[simp] theorem called_cpu :
    (called target n s).cpu = { s.cpu with pc := target, sp := s.cpu.sp - 2#16 } := by
  simp [called, State.setPc]

theorem called_kept : Kept [] s (called target n s) :=
  ((((PlainTouched.refl s).push16 s.cpu.pc).setPc target).setCycles n).kept fun r _ => by
    rw [State.reg8_setCycles, State.reg8_setPc, reg8_push16]

theorem called_storedTwo :
    StoredTwo (s.cpu.sp - 1#16) (hiByte s.cpu.pc) (s.cpu.sp - 2#16) (loByte s.cpu.pc) s
      (called target n s) :=
  (called_kept target n s).storedTwo_push16 rfl

/-- All that a call changes: the two stack bytes, SP and pc. -/
theorem called_effect :
    StoredTwo (s.cpu.sp - 1#16) (hiByte s.cpu.pc) (s.cpu.sp - 2#16) (loByte s.cpu.pc) s
        (called target n s) ∧
      (called target n s).cpu.sp = s.cpu.sp - 2#16 ∧ (called target n s).cpu.pc = target ∧
      Kept [] s (called target n s) ∧ (called target n s).cpu.f = s.cpu.f ∧
      (called target n s).mcycles = n :=
  ⟨called_storedTwo target n s, by simp, by simp, called_kept target n s, by simp, rfl⟩

end

/-- Settles O56: CALL, CALL cc and RST are one operation with three targets. -/
theorem callsAndRestarts : Obligations.CallsAndRestarts := by
  intro s cc k lo hi
  obtain ⟨htaken, hnot⟩ := exec_of_conditional (exec_callCond cc (hi ++ lo) s)
  exact ⟨⟨enc3_append _ hi lo, _, exec_callA16 _ s, called_effect _ 6 s⟩,
    ⟨encode_callCond cc hi lo, fun hcc => ⟨_, htaken hcc, called_effect _ 6 s⟩, hnot⟩,
    encode_rst k, _, exec_rst k s, called_effect _ 4 s⟩

/-! ## Returns (R912, R913, R914) -/

theorem encode_retCond (cc : Cond) :
    encode (.retCond cc) = [0b110#3 ++ cc.code ++ 0b000#3] := by
  cases cc <;> rfl

/-- The state a return leaves: pc is popped. -/
def returned (n : Nat) (s : State) : State :=
  ((popState s).setPc (popValue s)).setCycles n

theorem exec_ret (s : State) : exec .ret s = .next (returned 4 s) := rfl

theorem exec_retCond (cc : Cond) (s : State) :
    exec (.retCond cc) s =
      if condHolds cc s.cpu.f then .next (returned 5 s) else retire 2 s := by
  cases cc <;> rfl

/-- Settles O57: a return pops pc, and RETI sets IME besides. -/
theorem returns : Obligations.Returns := by
  intro s cc
  exact ⟨⟨rfl, exec_ret s⟩, ⟨encode_retCond cc, exec_of_conditional (exec_retCond cc s)⟩, rfl, rfl⟩

/-! ## A call and its return (R921) -/

section

variable {s : State} (hs : BusOk s.cfg s.bus) (hhi : storesByte s (s.cpu.sp - 1#16) = true)
  (hlo : storesByte s (s.cpu.sp - 2#16) = true) (target : Word) (n : Nat)

include hs hhi hlo

/-- The word on top of the stack after a call is the address the call pushed. -/
theorem popValue_called : popValue (called target n s) = s.cpu.pc := by
  obtain ⟨hhigh, hlow⟩ := (called_storedTwo target n s).values hs hhi hlo
  rw [popValue, called_cpu, sub_two_add_one, hhigh, hlow, joinBytes_hiByte_loByte]

/-- A return straight after a call leaves the CPU as it was before the call. -/
theorem returned_called_cpu (m : Nat) : (returned m (called target n s)).cpu = s.cpu := by
  simp [returned, popState, State.setPc, State.setSp, popValue_called hs hhi hlo]

end

/-- Settles O58: the address pushed is the address popped, and SP moves down and up by two. -/
theorem callThenReturn : Obligations.CallThenReturn := by
  intro s a target k hs hhi hlo
  have hback (v t : Word) (n : Nat) :
      (returned 4 (called t n (s.setPc v))).cpu.pc = v ∧
        (returned 4 (called t n (s.setPc v))).cpu.sp = s.cpu.sp := by
    rw [returned_called_cpu (s := s.setPc v) hs hhi hlo t n 4]
    exact ⟨rfl, rfl⟩
  obtain ⟨hcallPc, hcallSp⟩ := hback (a + 3#16) target 6
  exact ⟨⟨_, _, exec_callA16 _ _, exec_ret _, by simp, hcallPc, hcallSp, rfl⟩,
    _, _, exec_rst k _, exec_ret _, hback (a + 1#16) (rstTarget k) 4⟩

end Sys2Proof.Machine
end

section
/-!
PROOFS. The control of the CPU: the step of an awake CPU with and without the HALT bug, the opcode
it skips, the rows that act on the control bits, and the end of an EI's delay.
-/

namespace Sys2Proof.Machine

/-! ## The awake CPU's fetch, with the HALT bug and without (R330, R1011) -/

/-- How far the fetch of the opcode byte moves pc: not at all under the HALT bug (R1011). -/
def opcodeStep (s : State) : Word := if s.cpu.haltBug then 0#16 else 1#16

/-- The state a fetch that starts at pc and moves it by `n` leaves: `start` recorded, the HALT bug
spent. -/
def fetchedBy (n : Word) (s : State) : State :=
  { s with start := s.cpu.pc, cpu := { s.cpu with pc := s.cpu.pc + n, haltBug := false } }

@[simp] theorem fetchedBy_pc (n : Word) (s : State) : (fetchedBy n s).cpu.pc = s.cpu.pc + n := rfl

@[simp] theorem fetchedBy_cfg (n : Word) (s : State) : (fetchedBy n s).cfg = s.cfg := rfl

@[simp] theorem fetchedBy_ime (n : Word) (s : State) : (fetchedBy n s).cpu.ime = s.cpu.ime := rfl

@[simp] theorem fetchedBy_eiDelay (n : Word) (s : State) :
    (fetchedBy n s).cpu.eiDelay = s.cpu.eiDelay := rfl

@[simp] theorem memRead_fetchedBy (n : Word) (s : State) (a : Word) :
    memRead (fetchedBy n s) a = memRead s a :=
  memRead_congr rfl rfl rfl a

theorem fetchedBy_setPc (m n : Word) (s : State) :
    (fetchedBy m s).setPc ((fetchedBy m s).cpu.pc + n) = fetchedBy (m + n) s := by
  simp [fetchedBy, State.setPc, BitVec.add_assoc]

theorem opcodeFetched_eq (s : State) : opcodeFetched s = fetchedBy (opcodeStep s) s := by
  rw [opcodeFetched, fetch8_state]
  cases hb : s.cpu.haltBug
  · simp [fetchedBy, opcodeStep, hb]
  · simp [fetchedBy, opcodeStep, hb]

/-- An awake CPU with no interrupt to take runs the instruction its bytes decode to and then commits
a pending EI; under the HALT bug the opcode byte is also the byte after it. -/
theorem cpuStep_of_decode {s : State} {i : Instr} {rest : List Byte}
    (hf : s.cpu.faulted = false) (hs : s.cpu.stopped = false) (hh : s.cpu.halted = false)
    (hirq : s.cfg.irqDispatch = false ∨ s.cpu.ime = false ∨
      memRead s 0xFFFF#16 &&& memRead s 0xFF0F#16 &&& 0x1F#8 = 0x00#8)
    (hdecode : decode [memRead s s.cpu.pc, memRead s (s.cpu.pc + opcodeStep s),
      memRead s (s.cpu.pc + opcodeStep s + 1#16)] = .ok (i, rest))
    (himpl : s.cfg.implements i.opcode = true) :
    ∃ u, exec i (fetchedBy (opcodeStep s + BitVec.ofNat 16 (i.length - 1)) s) = .next u ∧
      cpuStep s = .next (commitEi s.cpu.eiDelay u) := by
  have hfetch := fetchInstr_of_decode (opcodeFetched_eq s) (rest := rest)
    (by simpa only [memRead_fetchedBy, fetchedBy_pc] using hdecode) himpl
  rw [fetchedBy_setPc] at hfetch
  obtain ⟨u, hu, hrun⟩ := runInstr_of_fetchInstr hfetch
  exact ⟨u, hu, (cpuStep_of_awake hf hs hh hirq).trans hrun⟩

/-- Settles O9: the fetch of the opcode byte spends the bug and leaves pc where it was. -/
theorem haltBugFetch : Obligations.HaltBugFetch := by
  intro s i rest hf hs hh hb hirq hdecode himpl
  have hstep : opcodeStep s = 0#16 := by simp [opcodeStep, hb]
  obtain ⟨u, hu, hcpu⟩ := cpuStep_of_decode hf hs hh hirq
    (by simpa only [hstep, BitVec.add_zero] using hdecode) himpl
  rw [hstep, BitVec.zero_add] at hu
  exact ⟨u, commitEi s.cpu.eiDelay u, hu, by simp [commitEi], step_of_cpuStep hcpu⟩

/-! ## The opcodes a step skips (R1030, R320) -/

theorem zero_append_eq_zext16 (n : Byte) : 0x00#8 ++ n = zext16 n := by
  apply BitVec.eq_of_toNat_eq
  rw [zext16_toNat, BitVec.toNat_append]
  simp

theorem implements_of_mem {c : Config} {code : Word} (h : code ∈ c.omitted) :
    c.implements code = false := by
  simp [Config.implements, h]

/-- An unused byte is a row of one byte, whose meaning is the fallback. -/
theorem decodeOpcode_unused {op : Byte} (h : op ∈ noInstrBytes) :
    ∃ i, decodeOpcode op = .whole i ∧ ∀ s, exec i s = .next (fallback (zext16 op) s) := by
  simp only [noInstrBytes, List.mem_cons, List.not_mem_nil, or_false] at h
  rcases h with rfl | rfl | rfl | rfl | rfl | rfl | rfl | rfl | rfl | rfl | rfl <;>
    exact ⟨_, rfl, fun _ => rfl⟩

/-- An opcode byte the build leaves out goes to the fallback, its operands not fetched. -/
theorem runInstr_of_omitted {s : State} (hcb : memRead s s.cpu.pc ≠ 0xCB#8)
    (h : s.cfg.implements (zext16 (memRead s s.cpu.pc)) = false) :
    runInstr s = .next (commitEi s.cpu.eiDelay
      (fallback (zext16 (memRead s s.cpu.pc)) (fetchedBy (opcodeStep s) s))) := by
  have hfetch : fetchInstr s = .unknown (zext16 (memRead s s.cpu.pc)) (opcodeFetched s) := by
    simp [fetchInstr, opcodeFetched, hcb, fetch8_state, h]
  rw [runInstr, hfetch, opcodeFetched_eq]

/-- An unused byte goes to the fallback, be it a row of the build or left out of it. -/
theorem runInstr_of_unused {s : State} (h : memRead s s.cpu.pc ∈ noInstrBytes) :
    runInstr s = .next (commitEi s.cpu.eiDelay
      (fallback (zext16 (memRead s s.cpu.pc)) (fetchedBy (opcodeStep s) s))) := by
  have hcb : memRead s s.cpu.pc ≠ 0xCB#8 := fun hcb => by
    rw [hcb] at h
    exact absurd h (by decide)
  cases himpl : s.cfg.implements (zext16 (memRead s s.cpu.pc)) with
  | false => exact runInstr_of_omitted hcb himpl
  | true =>
    obtain ⟨i, hi, hexec⟩ := decodeOpcode_unused h
    have hfetch : fetchInstr s = .instr i (opcodeFetched s) := by
      simp [fetchInstr, fetchOperands, opcodeFetched, hcb, hi, fetch8_state, himpl]
    simp only [runInstr, hfetch, hexec, opcodeFetched_eq]

/-- A CB pair the build leaves out goes to the fallback, both of its bytes fetched. -/
theorem runInstr_of_omittedCb {s : State} (hcb : memRead s s.cpu.pc = 0xCB#8)
    (h : s.cfg.implements (joinBytes 0xCB#8 (memRead s (s.cpu.pc + opcodeStep s))) = false) :
    runInstr s = .next (commitEi s.cpu.eiDelay
      (fallback (joinBytes 0xCB#8 (memRead s (s.cpu.pc + opcodeStep s)))
        (fetchedBy (opcodeStep s + 1#16) s))) := by
  have hsecond : fetchInstr s = fetchCb (fetchedBy (opcodeStep s) s) := by
    rw [← opcodeFetched_eq]
    simp [fetchInstr, opcodeFetched, hcb]
  have hstate : (fetch8 (fetchedBy (opcodeStep s) s)).2 = fetchedBy (opcodeStep s + 1#16) s :=
    (fetch8_noBug rfl).trans (fetchedBy_setPc _ _ s)
  simp [runInstr, hsecond, fetchCb, hstate, h]

/-- The state a skipped opcode leaves: logged, pc moved by `n`, no machine cycle, the `stop` policy
applied, and a pending EI too. -/
def skipped (code n : Word) (s : State) : State :=
  { s with
    start := s.cpu.pc
    mcycles := 0
    faultLog := s.faultLog ++ [⟨s.cpu.pc, code⟩]
    cpu := { s.cpu with
      pc := s.cpu.pc + n
      haltBug := false
      ime := s.cpu.ime || s.cpu.eiDelay
      eiDelay := false
      faulted := decide (s.cfg.unknownPolicy = .stops) } }

/-- The fallback after a fetch, with the EI delay applied, skips the opcode. -/
theorem commitEi_fallback {s : State} (hf : s.cpu.faulted = false) (code n : Word) :
    commitEi s.cpu.eiDelay (fallback code (fetchedBy n s)) = skipped code n s := by
  rw [commitEi_frame, fallback_state]
  simp [fetchedBy, skipped, hf, Bool.or_comm]

/-- Settles O10: each of the three is the fallback after its opcode bytes. -/
theorem unknownOpcode_skipped : Obligations.UnknownOpcode := by
  intro s hf hs hh hirq
  have hskip {code n : Word} (h : runInstr s =
      .next (commitEi s.cpu.eiDelay (fallback code (fetchedBy n s)))) :
      cpuStep s = .next (skipped code n s) := by
    rw [cpuStep_of_awake hf hs hh hirq, h, commitEi_fallback hf]
  refine ⟨fun hop => ?_, fun hcb hmem => ?_, fun hcb hmem => ?_⟩
  · rw [zero_append_eq_zext16]
    exact hskip (runInstr_of_unused hop)
  · rw [zero_append_eq_zext16] at hmem ⊢
    exact hskip (runInstr_of_omitted hcb (implements_of_mem hmem))
  · exact hskip (runInstr_of_omittedCb hcb (implements_of_mem hmem))

/-! ## The control rows (R1001-R1021) -/

theorem exec_halt_bug {s : State} (hcfg : s.cfg.haltBug = true) (hime : s.cpu.ime = false)
    (hd : deliverable s ≠ 0x00#8) :
    exec .halt s = .next { s with mcycles := 1, cpu := { s.cpu with haltBug := true } } :=
  if_pos ⟨hcfg, hime, hd⟩

theorem exec_halt_waits {s : State}
    (h : s.cfg.haltBug = false ∨ s.cpu.ime = true ∨ deliverable s = 0x00#8) :
    exec .halt s = .next { s with mcycles := 1, cpu := { s.cpu with halted := true } } := by
  refine if_neg fun ⟨hcfg, hime, hd⟩ => ?_
  rcases h with h | h | h
  · exact absurd (h.symm.trans hcfg) (by decide)
  · exact absurd (h.symm.trans hime) (by decide)
  · exact hd h

/-- Settles O59: HALT decides between its bug and its wait; the other rows are one update each. -/
theorem systemInstructions : Obligations.SystemInstructions := by
  intro s n
  simp only [memRead_ie_and_if]
  exact ⟨⟨rfl, rfl⟩, ⟨rfl, exec_halt_bug, exec_halt_waits⟩, ⟨rfl, rfl⟩, ⟨rfl, rfl⟩, rfl, rfl⟩

/-! ## IME and a pending EI at the end of a step (R1020, R1021, R914) -/

@[simp] theorem returnFromInterrupt_ime (s : State) : (returnFromInterrupt s).cpu.ime = true := rfl

@[simp] theorem returnFromInterrupt_eiDelay (s : State) :
    (returnFromInterrupt s).cpu.eiDelay = false := rfl

/-- The result is a next state with IME and a pending EI as `s` has them. -/
def KeepsInterruptBits (s : State) (r : Result) : Prop :=
  ∃ t, r = .next t ∧ t.cpu.ime = s.cpu.ime ∧ t.cpu.eiDelay = s.cpu.eiDelay

theorem haltCpu_keepsInterruptBits (s : State) : KeepsInterruptBits s (haltCpu s) := by
  rw [haltCpu]
  split
  · exact ⟨_, rfl, rfl, rfl⟩
  · exact ⟨_, rfl, rfl, rfl⟩

theorem fallback_keepsInterruptBits (code : Word) (s : State) :
    KeepsInterruptBits s (.next (fallback code s)) :=
  ⟨_, rfl, by rw [fallback_state], by rw [fallback_state]⟩

/-- An unused row is decoded from an unused byte, so its meaning is the fallback. -/
theorem exec_of_not_wellFormed {i : Instr} (h : i.wellFormed = false) :
    ∃ code, ∀ s, exec i s = .next (fallback code s) := by
  obtain ⟨op, v, -, rfl⟩ := decode_ok_cases (decodeEncode i [])
  rw [wellFormed_eq, encode_instr, Bool.not_eq_false', List.contains_iff_mem] at h
  obtain ⟨i, hi, hexec⟩ := decodeOpcode_unused (op := op) h
  rw [hi]
  exact ⟨_, hexec⟩

/-- Only DI, RETI and EI write IME or a pending EI. -/
theorem exec_keepsInterruptBits {i : Instr} (hdi : i ≠ .di) (hreti : i ≠ .reti) (hei : i ≠ .ei)
    (s : State) : KeepsInterruptBits s (exec i s) := by
  cases hi : i.isControl with
  | false =>
    obtain ⟨t, ht, hk⟩ := exec_plainTouched i hi s
    exact ⟨t, ht, hk.ime, hk.eiDelay⟩
  | true =>
    rcases isControl_cases hi with rfl | ⟨n, rfl⟩ | h | h | h | h
    · exact haltCpu_keepsInterruptBits s
    · exact ⟨_, rfl, rfl, rfl⟩
    · exact absurd h hdi
    · exact absurd h hei
    · exact absurd h hreti
    · obtain ⟨code, hexec⟩ := exec_of_not_wellFormed h
      rw [hexec]
      exact fallback_keepsInterruptBits code s

/-- Settles O13: the end of the step adds a pending EI to IME, and DI, RETI and EI alone write
either before that. -/
theorem eiDelay : Obligations.EiDelay := by
  refine ⟨rfl, fun s i rest hf hs hh hb hirq hdecode himpl => ?_⟩
  have hstep : opcodeStep s = 1#16 := by simp [opcodeStep, hb]
  obtain ⟨u, hu, hcpu⟩ := cpuStep_of_decode hf hs hh hirq
    (by simpa [hstep, BitVec.add_assoc] using hdecode) himpl
  refine ⟨_, hcpu, ?_⟩
  rw [commitEi_frame]
  rcases eq_or_ne i .di with rfl | hdi
  · cases hu
    simp
  rcases eq_or_ne i .reti with rfl | hreti
  · cases hu
    simp
  rcases eq_or_ne i .ei with rfl | hei
  · cases hu
    simp [Bool.or_comm]
  · obtain ⟨t, ht, hime, hdelay⟩ := exec_keepsInterruptBits hdi hreti hei _
    cases hu.symm.trans ht
    simp [hdi, hreti, hei, hime, hdelay, Bool.or_comm]

end Sys2Proof.Machine
end

section
/-!
PROOFS. Interrupts and the host: the source a step takes and what taking it changes, that every
system step completes, and the requests the host makes.
-/

namespace Sys2Proof.Machine

/-! ## The source a step takes (R1106, R1107, R1110) -/

/-- A source is deliverable if the bus shows it both enabled and requested (R1107). -/
theorem deliverable_getLsbD (s : State) {j : Nat} (hj : j < 5) :
    (deliverable s).getLsbD j =
      ((memRead s 0xFFFF#16).getLsbD j && (memRead s 0xFF0F#16).getLsbD j) := by
  have hmask : (0x1F#8).getLsbD j = true := by
    revert j
    decide
  rw [← memRead_ie_and_if, BitVec.getLsbD_and, BitVec.getLsbD_and, hmask, Bool.and_true]

/-- The lowest-numbered deliverable source is the pending one (R1106). -/
theorem pendingIrq_eq_some {s : State} {k : Nat} (hk : k < 5)
    (h : (deliverable s).getLsbD k = true) (hlow : ∀ j < k, (deliverable s).getLsbD j = false) :
    pendingIrq s = some k := by
  have hbit (j : Nat) (hj : j < k) : ¬ (deliverable s).getLsbD j = true := by
    rw [hlow j hj]
    decide
  rw [pendingIrq]
  match k, hk with
  | 0, _ => rw [if_pos h]
  | 1, _ => rw [if_neg (hbit 0 (by decide)), if_pos h]
  | 2, _ => rw [if_neg (hbit 0 (by decide)), if_neg (hbit 1 (by decide)), if_pos h]
  | 3, _ =>
    rw [if_neg (hbit 0 (by decide)), if_neg (hbit 1 (by decide)), if_neg (hbit 2 (by decide)),
      if_pos h]
  | 4, _ =>
    rw [if_neg (hbit 0 (by decide)), if_neg (hbit 1 (by decide)), if_neg (hbit 2 (by decide)),
      if_neg (hbit 3 (by decide)), if_pos h]

/-- An awake CPU takes the interrupt there is to take instead of an instruction (R330). -/
theorem cpuStep_of_takenIrq {s : State} {k : Nat} (hf : s.cpu.faulted = false)
    (hs : s.cpu.stopped = false) (hh : s.cpu.halted = false) (h : takenIrq s = some k) :
    cpuStep s = .next (dispatchInterrupt k s) := by
  simp [cpuStep, hf, wakeStop_of_running hs, wakeHalt_of_running hh, awakeStep, h]

/-! ## Taking an interrupt (R1120) -/

/-- What two pushed bytes do to memory does not depend on the registers of the state before. -/
theorem StoredTwo.of_withCpu {s t : State} {c : Cpu} {a b : Word} {v w : Byte}
    (h : StoredTwo a v b w { s with cpu := c } t) : StoredTwo a v b w s t where
  bus := h.bus.trans (by rw [memWrite_withCpu a, memWrite_withCpu b])
  values := h.values
  others hs d had hbd := (h.others hs d had hbd).trans (memRead_congr rfl rfl rfl d)

theorem dispatchInterrupt_kept (k : Nat) (s : State) :
    Kept [] (dispatchFrom k s) (dispatchInterrupt k s) :=
  ((((PlainTouched.refl (dispatchFrom k s)).push16 (irqReturn s)).setPc
    (irqVector k)).setCycles 5).kept fun r _ => by
      rw [State.reg8_setCycles, State.reg8_setPc, reg8_push16]

/-- The return address is pushed on the memory in which the request is acknowledged. -/
theorem dispatchInterrupt_storedTwo (k : Nat) (s : State) :
    StoredTwo (s.cpu.sp - 1#16) (hiByte (irqReturn s)) (s.cpu.sp - 2#16) (loByte (irqReturn s))
      (s.setIo 0x0F (s.io 0x0F &&& ~~~(1#8 <<< k))) (dispatchInterrupt k s) :=
  StoredTwo.of_withCpu (c := (dispatchFrom k s).cpu)
    ((dispatchInterrupt_kept k s).storedTwo_push16 rfl)

theorem irqVector_toNat {k : Nat} (hk : k < 5) : (irqVector k).toNat = 0x40 + 8 * k := by
  rw [irqVector, BitVec.toNat_ofNat]
  omega

/-- The bus shows a write of IF that clears one of the five sources as that bit cleared (R150). -/
theorem memRead_if_cleared {s : State} (hs : BusOk s.cfg s.bus) {k : Nat} (hk : k < 5) :
    memRead (s.setIo 0x0F (s.io 0x0F &&& ~~~(1#8 <<< k))) 0xFF0F#16 =
      memRead s 0xFF0F#16 &&& ~~~(1#8 <<< k) := by
  have hunused : 0xE0#8 &&& ~~~(1#8 <<< k) = 0xE0#8 := by
    revert k
    decide
  rw [memRead_if, memRead_if, State.io_setIo hs.mem_wf, if_pos rfl, BitVec.and_or_distrib_right,
    hunused, BitVec.and_assoc, BitVec.and_assoc, BitVec.and_comm (~~~(1#8 <<< k))]

/-- A byte stored in IF is seen at 0xFF0F alone. -/
theorem memRead_setIf_other {s : State} (hs : BusOk s.cfg s.bus) {b : Word} (hb : b ≠ 0xFF0F#16)
    (v : Byte) : memRead (s.setIo 0x0F v) b = memRead s b :=
  memRead_setIo_other hs (by decide) (fun h => hb (BitVec.eq_of_toNat_eq h))
    (fun h => absurd h (by decide)) v

/-- Settles O12: the lowest deliverable source is the one taken, and taking it is a push after the
request is acknowledged. -/
theorem interruptTaken : Obligations.InterruptTaken := by
  intro s k hf hs hh hdispatch hime hk hie hif hlow
  have htaken : takenIrq s = some k := by
    rw [takenIrq, hdispatch, hime]
    refine pendingIrq_eq_some hk (by rw [deliverable_getLsbD s hk, hie, hif]; rfl) fun j hj => ?_
    rw [deliverable_getLsbD s (by omega), Bool.and_eq_false_iff]
    exact hlow j hj
  obtain ⟨hcfg, hppu, hlog, hcycles, -⟩ := dispatchInterrupt_frame k s
  refine ⟨_, cpuStep_of_takenIrq hf hs hh htaken, fun r => ?_, ?_⟩
  · exact ((dispatchInterrupt_kept k s).regs r List.not_mem_nil).trans (by cases r <;> rfl)
  rw [dispatchInterrupt_cpu]
  exact ⟨rfl, rfl, irqVector_toNat hk, rfl, rfl, rfl, hh, hs, hf, hcfg, hppu, hlog, hcycles,
    dispatchInterrupt_storedTwo k s,
    fun hb => ⟨memRead_if_cleared hb hk, fun a ha => memRead_setIf_other hb ha _⟩⟩

/-! ## Every step completes (R1270, R1100) -/

/-- Settles O14: the CPU step answers a next state from every state, and the tick after it touches
neither the log, the parameters nor the CPU. -/
theorem everyStepCompletes : Obligations.EveryStepCompletes := by
  intro s
  refine ⟨fun t => step_of_cpuStep, ?_⟩
  obtain ⟨t, ht, hk⟩ := cpuStep_kept s
  obtain ⟨hcfg, hcpu, hlog, -⟩ := ppuTick_frame (t.mcycles * t.cfg.dotsPerMCycle) t
  refine ⟨tickAfter t, step_of_cpuStep ht, ?_⟩
  rw [tickAfter, hcfg, hcpu, hlog]
  exact ⟨hk.faultLog, hk.cfg, hk.faulted⟩

/-! ## The host's requests (R1105, R1106, R1280) -/

/-- Requesting source `k` sets its bit of IF (R1105). -/
theorem request_getLsbD_self {s : State} (hs : Memory.wf .internal s.bus.mem = true) {k : Nat}
    (hk : k < 8) : ((request k s).io 0x0F).getLsbD k = true := by
  rw [request, State.io_setIo hs, if_pos rfl, BitVec.getLsbD_or, Bool.or_eq_true]
  right
  revert k
  decide

/-- The bus shows the five sources of IF as they are stored (R150). -/
theorem memRead_if_getLsbD (s : State) {j : Nat} (hj : j < 5) :
    (memRead s 0xFF0F#16).getLsbD j = (s.io 0x0F).getLsbD j := by
  have hmask : (0x1F#8).getLsbD j = true ∧ (0xE0#8).getLsbD j = false := by
    revert j
    decide
  rw [memRead_if, BitVec.getLsbD_or, BitVec.getLsbD_and, hmask.1, hmask.2, Bool.false_or,
    Bool.and_true]

/-- Requesting a source changes no other bit of IF as the bus shows it (R1105). -/
theorem memRead_if_request_of_ne {s : State} (hs : Memory.wf .internal s.bus.mem = true)
    {k j : Nat} (h : j ≠ k) :
    (memRead (request k s) 0xFF0F#16).getLsbD j = (memRead s 0xFF0F#16).getLsbD j := by
  simp only [memRead_if, BitVec.getLsbD_or, BitVec.getLsbD_and, request_getLsbD_of_ne hs h]

/-- Requesting one of the five sources sets its bit of IF as the bus shows it (R1105). -/
theorem memRead_if_request_self {s : State} (hs : Memory.wf .internal s.bus.mem = true) {k : Nat}
    (hk : k < 5) : (memRead (request k s) 0xFF0F#16).getLsbD k = true := by
  rw [memRead_if_getLsbD _ hk, request_getLsbD_self hs (by omega)]

theorem hostIrqBit_lt (k : HostIrq) : hostIrqBit k < 5 := by
  cases k <;> decide

/-- The framebuffer lists pixel (x, y) at `y*160 + x` (R131, R1280). -/
theorem getFramebuffer_getD (s : State) {x y : Nat} (hx : x < 160) (hy : y < 144) :
    (getFramebuffer s).getD (y * 160 + x) 0#32 = pixelAt s x y := by
  have hindex : y * 160 + x < 23040 := by omega
  simp [getFramebuffer, pixelAt, hindex]

/-- Settles O27: the host's operations are the machine's own, and a request sets one bit of IF. -/
theorem hostRequests : Obligations.HostRequests := by
  intro s k a v d
  refine ⟨rfl, rfl, rfl, rfl, fun x y => getFramebuffer_getD s, by simp [getFramebuffer], rfl,
    fun hs => ?_⟩
  refine ⟨?_, fun j hj => ?_, fun b hb => memRead_setIf_other hs hb _⟩
  · have hset := memRead_if_request_self hs.mem_wf (hostIrqBit_lt k)
    cases k <;> exact hset
  · exact memRead_if_request_of_ne hs.mem_wf (by cases k <;> exact hj)

end Sys2Proof.Machine
end

section
/-!
PROOFS. The renderer: the addresses it reads, the background and window colours, the sprites of a
line, and every pixel of the row it draws.
-/

namespace Sys2Proof.Machine

/-! ## The renderer's registers on the bus (R140-R149) -/

theorem memRead_lcdc (s : State) : memRead s 0xFF40#16 = s.io 0x40 :=
  memRead_ioReg s (n := 0x40) (by decide)

theorem memRead_scy (s : State) : memRead s 0xFF42#16 = s.io 0x42 :=
  memRead_ioReg s (n := 0x42) (by decide)

theorem memRead_scx (s : State) : memRead s 0xFF43#16 = s.io 0x43 :=
  memRead_ioReg s (n := 0x43) (by decide)

theorem memRead_bgp (s : State) : memRead s 0xFF47#16 = s.io 0x47 :=
  memRead_ioReg s (n := 0x47) (by decide)

theorem memRead_obp0 (s : State) : memRead s 0xFF48#16 = s.io 0x48 :=
  memRead_ioReg s (n := 0x48) (by decide)

theorem memRead_obp1 (s : State) : memRead s 0xFF49#16 = s.io 0x49 :=
  memRead_ioReg s (n := 0x49) (by decide)

theorem memRead_wy (s : State) : memRead s 0xFF4A#16 = s.io 0x4A :=
  memRead_ioReg s (n := 0x4A) (by decide)

theorem memRead_wx (s : State) : memRead s 0xFF4B#16 = s.io 0x4B :=
  memRead_ioReg s (n := 0x4B) (by decide)

/-! ## Shades (R147, R1183) -/

/-- The pixel of a palette and a colour index is the shade the palette's two bits select. -/
theorem palettePixel_eq (s : State) (pal : Byte) (c : BitVec 2) :
    palettePixel s pal c = shadePixel s (shadeIndex pal c.toNat) := by
  have hindex : ((pal >>> (2 * c.toNat)) &&& 0x03#8).toNat = shadeIndex pal c.toNat := by
    rw [BitVec.toNat_and, BitVec.toNat_ushiftRight, Nat.shiftRight_eq_div_pow, shadeIndex,
      Nat.pow_mul]
    exact Nat.and_two_pow_sub_one_eq_mod _ 2
  have hlt : shadeIndex pal c.toNat < 4 := Nat.mod_lt _ (by decide)
  rw [palettePixel, shadeOf, hindex, shadePixel]
  match shadeIndex pal c.toNat, hlt with
  | 0, _ | 1, _ | 2, _ | 3, _ => rfl

/-! ## Background and window (R1181, R1182, R1191) -/

theorem planeColour_toNat (lo hi : Byte) (b : Nat) :
    (planeColour lo hi b).toNat = colourIndex lo hi b := by
  rw [planeColour, colourIndex]
  cases hi.getLsbD b <;> cases lo.getLsbD b <;> rfl

/-- The address of background or window tile `idx` as a number, with the choice of tile data of
`tileColour`. -/
def tileBase (s : State) (idx : Nat) : Nat :=
  if (memRead s 0xFF40#16).getLsbD 4 then 0x8000 + 16 * idx
  else if idx < 128 then 0x9000 + 16 * idx else 0x9000 + 16 * idx - 0x1000

theorem tileColour_eq (s : State) (idx row col : Nat) :
    tileColour s idx row col =
      colourIndex (memRead s (BitVec.ofNat 16 (tileBase s idx + 2 * row)))
        (memRead s (BitVec.ofNat 16 (tileBase s idx + 2 * row + 1))) (7 - col) := rfl

/-- No tile reaches past the tile data, 0x8000 to 0x97FF. -/
theorem tileBase_lt (s : State) {idx : Nat} (h : idx < 256) : tileBase s idx + 15 < 0x9800 := by
  rw [tileBase]
  split_ifs <;> omega

theorem sext16_toNat (n : Byte) :
    (sext16 n).toNat = if n.toNat < 128 then n.toNat else n.toNat + 0xFF00 := by
  revert n
  decide

theorem tileAddr_eq (s : State) (idx : Byte) :
    tileAddr s idx = BitVec.ofNat 16 (tileBase s idx.toNat) := by
  have hidx := idx.isLt
  apply BitVec.eq_of_toNat_eq
  rw [tileAddr, tileBase, memRead_lcdc]
  split
  · simp only [BitVec.toNat_add, BitVec.toNat_mul, zext16_toNat, BitVec.toNat_ofNat]
    omega
  · simp only [BitVec.toNat_add, BitVec.toNat_mul, sext16_toNat, BitVec.toNat_ofNat]
    split <;> omega

theorem tilePixel_toNat (s : State) (idx : Byte) (row col : Nat) :
    (tilePixel s idx row col).toNat = tileColour s idx.toNat row col := by
  rw [tilePixel, planeColour_toNat, tileAddr_eq, tileColour_eq, ← BitVec.ofNat_add,
    ← BitVec.ofNat_add]

/-- The background or window colour index the renderer computes is the one of R1180. -/
theorem bgColour_toNat (s : State) (x y : Nat) : (bgColour s x y).toNat = screenColour s x y := by
  simp only [bgColour, screenColour, inWindow, Bool.and_eq_true, Bool.not_eq_true',
    decide_eq_true_iff, memRead_lcdc, memRead_scy, memRead_scx, memRead_wy, memRead_wx, and_assoc]
  split
  · rfl
  split
  · exact tilePixel_toNat s _ _ _
  · exact tilePixel_toNat s _ _ _

/-! ## The sprites of a line (R1200, R1201) -/

theorem objHeight_eq (s : State) : objHeight s = spriteHeight s := by
  rw [objHeight, spriteHeight, memRead_lcdc]

theorem objCovers_iff (s : State) (y i : Nat) : objCovers s y i = true ↔ spriteCovers s y i := by
  rw [objCovers, decide_eq_true_iff, objHeight_eq]
  rfl

theorem mem_objSelect {s : State} {y i : Nat} (h : i ∈ objSelect s y) :
    i < 40 ∧ spriteCovers s y i := by
  obtain ⟨hi, hcovers⟩ := List.mem_filter.mp (List.mem_of_mem_take h)
  exact ⟨List.mem_range.mp hi, (objCovers_iff s y i).mp hcovers⟩

/-- Settles O34: the selection is the first ten covering entries in OAM order, and what is left out
follows them. -/
theorem spriteLimit : Obligations.SpriteLimit := by
  intro s y
  have hsorted : ((List.range 40).filter (objCovers s y)).Pairwise (· < ·) :=
    List.pairwise_lt_range.filter _
  refine ⟨List.length_take_le _ _, hsorted.sublist (List.take_sublist _ _),
    fun i => mem_objSelect, fun i hi hcovers hleft => ?_⟩
  have hmem : i ∈ (List.range 40).filter (objCovers s y) :=
    List.mem_filter.mpr ⟨List.mem_range.mpr hi, (objCovers_iff s y i).mpr hcovers⟩
  rw [← List.take_append_drop 10 ((List.range 40).filter (objCovers s y))] at hmem hsorted
  have hdrop : i ∈ ((List.range 40).filter (objCovers s y)).drop 10 :=
    (List.mem_append.mp hmem).resolve_left hleft
  refine ⟨?_, fun j hj => (List.pairwise_append.mp hsorted).2.2 j hj i hdrop⟩
  have hpos := List.length_pos_of_mem hdrop
  rw [List.length_drop] at hpos
  rw [objSelect, List.length_take]
  omega

/-- The address of sprite `i`'s two bitplane bytes on line `y`, as a number. -/
def spriteRowAddr (s : State) (i y : Nat) : Nat :=
  let h := spriteHeight s
  let down := ((y : Int) - (((spriteByte s i 0).toNat : Int) - 16)).toNat
  let row := if (spriteByte s i 3).getLsbD 6 then h - 1 - down else down
  let t := (spriteByte s i 2).toNat
  0x8000 + 16 * (if h = 16 then t - t % 2 else t) + 2 * row

/-- The screen column of sprite `i`'s first pixel (R1200). -/
def spriteLeft (s : State) (i : Nat) : Int := ((spriteByte s i 1).toNat : Int) - 8

/-- The colour index of sprite `i`'s column `col` on line `y`, X flip taken into account. -/
def spriteColumn (s : State) (i y col : Nat) : Nat :=
  colourIndex (memRead s (BitVec.ofNat 16 (spriteRowAddr s i y)))
    (memRead s (BitVec.ofNat 16 (spriteRowAddr s i y + 1)))
    (if (spriteByte s i 3).getLsbD 5 then col else 7 - col)

theorem spriteColour_eq (s : State) (i x y : Nat) :
    spriteColour s i x y =
      if spriteLeft s i ≤ x ∧ (x : Int) < spriteLeft s i + 8 then
        spriteColumn s i y ((x : Int) - spriteLeft s i).toNat
      else 0 := rfl

theorem and_FE_toNat (n : Byte) : (n &&& 0xFE#8).toNat = n.toNat - n.toNat % 2 := by
  revert n
  decide

theorem objRow_eq (s : State) (y i : Nat) :
    objRow s y i = (memRead s (BitVec.ofNat 16 (spriteRowAddr s i y)),
      memRead s (BitVec.ofNat 16 (spriteRowAddr s i y + 1))) := by
  have hdown : ((y : Int) - (((spriteByte s i 0).toNat : Int) - 16)).toNat =
      y + 16 - (oamByte s i 0).toNat := by
    rw [show oamByte s i 0 = spriteByte s i 0 from rfl]
    omega
  have htile : (if spriteHeight s = 16 then oamByte s i 2 &&& 0xFE#8 else oamByte s i 2).toNat =
      if spriteHeight s = 16 then (spriteByte s i 2).toNat - (spriteByte s i 2).toNat % 2
      else (spriteByte s i 2).toNat := by
    split
    · exact and_FE_toNat _
    · rfl
  simp only [objRow, objHeight_eq, htile, spriteRowAddr, hdown, ← BitVec.ofNat_add]
  rfl

/-! ## A sprite drawn onto the row (R1200, R1203) -/

/-- The colour index of column `c` as the renderer computes it. -/
theorem objColumn_toNat (s : State) (y i c : Nat) :
    (planeColour (objRow s y i).1 (objRow s y i).2
      (if (oamByte s i 3).getLsbD 5 then c else 7 - c)).toNat = spriteColumn s i y c := by
  rw [planeColour_toNat, objRow_eq]
  rfl

theorem bgLine_getD (s : State) (y : Nat) {x : Nat} (hx : x < 160) :
    (bgLine s y).getD x 0#2 = bgColour s x y := by
  simp [bgLine, hx]

theorem eq_zero_iff_toNat {w : Nat} (c : BitVec w) : c = 0#w ↔ c.toNat = 0 := by
  rw [← BitVec.toNat_inj, BitVec.toNat_zero]

theorem objVisible_eq (s : State) (attr : Byte) (x y : Nat) :
    objVisible s attr (bgColour s x y) =
      (!s.cfg.objBgPriority || !attr.getLsbD 7 || decide (screenColour s x y = 0)) := by
  simp only [objVisible, eq_zero_iff_toNat, bgColour_toNat]

theorem getD_set_of_lt {α : Type} {l : List α} {i : Nat} (hi : i < l.length) (j : Nat) (a d : α) :
    (l.set i a).getD j d = if j = i then a else l.getD j d := by
  rw [List.getD_eq_getElem?_getD, List.getElem?_set, List.getD_eq_getElem?_getD]
  by_cases h : i = j
  · rw [if_pos h, if_pos hi, if_pos h.symm]
    rfl
  · rw [if_neg h, if_neg (Ne.symm h)]

/-- A column of a sprite replaces the pixel at its place, if it is opaque, on the screen and
visible. -/
theorem objPixel_eq (s : State) (y i : Nat) (bgc : List (BitVec 2)) (line : List (BitVec 32))
    (c : Nat) :
    objPixel s y i bgc line c =
      if spriteColumn s i y c ≠ 0 ∧ 0 ≤ spriteLeft s i + c ∧ spriteLeft s i + c < 160 ∧
          objVisible s (spriteByte s i 3) (bgc.getD (spriteLeft s i + c).toNat 0#2) = true then
        line.set (spriteLeft s i + c).toNat (shadePixel s (shadeIndex
          (if (spriteByte s i 3).getLsbD 4 then memRead s 0xFF49#16 else memRead s 0xFF48#16)
          (spriteColumn s i y c)))
      else line := by
  simp only [objPixel, palettePixel_eq, ne_eq, eq_zero_iff_toNat, objColumn_toNat, memRead_obp0,
    memRead_obp1]
  rfl

/-- Where column `c` lands, sprite `i`'s colour is that column's. -/
theorem spriteColour_of_column {s : State} {i c x : Nat} (hc : c < 8)
    (hx : (x : Int) = spriteLeft s i + c) (y : Nat) :
    spriteColour s i x y = spriteColumn s i y c := by
  rw [spriteColour_eq, if_pos (by omega)]
  congr 1
  omega

theorem spriteDraws_iff (s : State) (x y i : Nat) :
    spriteDraws s x y i = true ↔
      spriteColour s i x y ≠ 0 ∧ objVisible s (spriteByte s i 3) (bgColour s x y) = true := by
  rw [spriteDraws, objVisible_eq, Bool.and_eq_true, decide_eq_true_iff]

/-- The row after column `c` of a sprite: the pixel at the column's place is the sprite's if it
draws there, and every other pixel is as before. -/
theorem objPixel_getD (s : State) (y i : Nat) {line : List (BitVec 32)} (hline : line.length = 160)
    {c x : Nat} (hc : c < 8) (hx : x < 160) :
    (objPixel s y i (bgLine s y) line c).getD x 0#32 =
      if (x : Int) = spriteLeft s i + c ∧ spriteDraws s x y i = true then spritePixel s i x y
      else line.getD x 0#32 := by
  rw [objPixel_eq]
  by_cases hat : (x : Int) = spriteLeft s i + c
  · have hcolour := spriteColour_of_column hc hat y
    have hiff : spriteDraws s x y i = true ↔ spriteColumn s i y c ≠ 0 ∧
        objVisible s (spriteByte s i 3) (bgColour s x y) = true := by
      rw [spriteDraws_iff, hcolour]
    rw [← hat, Int.toNat_natCast, bgLine_getD s y hx]
    by_cases hdraws : spriteDraws s x y i = true
    · obtain ⟨hopaque, hvisible⟩ := hiff.mp hdraws
      have hhere : (x : Int) = x ∧ spriteDraws s x y i = true := ⟨rfl, hdraws⟩
      rw [if_pos ⟨hopaque, by omega, by omega, hvisible⟩, if_pos hhere,
        getD_set_of_lt (by omega), if_pos rfl, spritePixel, hcolour]
    · rw [if_neg fun h => hdraws (hiff.mpr ⟨h.1, h.2.2.2⟩), if_neg fun h => hdraws h.2]
  · have hnot : ¬ ((x : Int) = spriteLeft s i + c ∧ spriteDraws s x y i = true) := fun h => hat h.1
    rw [if_neg hnot]
    split
    · rw [getD_set_of_lt (by omega), if_neg (by omega)]
    · rfl

/-- The row after a sprite's first `n` columns. -/
theorem objColumns_getD (s : State) (y i : Nat) {line : List (BitVec 32)}
    (hline : line.length = 160) {n x : Nat} (hn : n ≤ 8) (hx : x < 160) :
    ((List.range n).foldl (objPixel s y i (bgLine s y)) line).getD x 0#32 =
      if (spriteLeft s i ≤ x ∧ (x : Int) < spriteLeft s i + n) ∧ spriteDraws s x y i = true then
        spritePixel s i x y
      else line.getD x 0#32 := by
  induction n with
  | zero => rw [if_neg (by omega), List.range_zero, List.foldl_nil]
  | succ n ih =>
    have hlength :=
      (foldl_length (objPixel_length s y i (bgLine s y)) (List.range n) line).trans hline
    rw [List.range_succ, List.foldl_append, List.foldl_cons, List.foldl_nil,
      objPixel_getD s y i hlength (by omega) hx, ih (by omega), ← ite_or]
    refine if_congr ?_ rfl rfl
    rw [← or_and_right]
    exact and_congr_left' (by omega)

/-- The row after a sprite: its pixel where it draws, and every other pixel as before. -/
theorem objDraw_getD (s : State) (y i : Nat) {line : List (BitVec 32)} (hline : line.length = 160)
    {x : Nat} (hx : x < 160) :
    (objDraw s y (bgLine s y) line i).getD x 0#32 =
      if spriteDraws s x y i = true then spritePixel s i x y else line.getD x 0#32 := by
  rw [objDraw, objColumns_getD s y i hline (Nat.le_refl 8) hx]
  by_cases hdraws : spriteDraws s x y i = true
  · have hcolour := ((spriteDraws_iff s x y i).mp hdraws).1
    rw [spriteColour_eq] at hcolour
    have hreach := (ite_ne_right_iff.mp hcolour).1
    rw [if_pos ⟨hreach, hdraws⟩, if_pos hdraws]
  · rw [if_neg fun h => hdraws h.2, if_neg hdraws]

/-! ## Every pixel of a row (R1180, R1202) -/

/-- Sprites drawn one over the other: the last one that draws a pixel is seen there. -/
theorem objDraws_getD (s : State) (y : Nat) {x : Nat} (hx : x < 160) (order : List Nat)
    {line : List (BitVec 32)} (hline : line.length = 160) :
    (order.foldl (objDraw s y (bgLine s y)) line).getD x 0#32 =
      ((order.filter (spriteDraws s x y)).getLast?.map fun i => spritePixel s i x y).getD
        (line.getD x 0#32) := by
  induction order generalizing line with
  | nil => rfl
  | cons i order ih =>
    rw [List.foldl_cons, ih ((objDraw_length s y (bgLine s y) line i).trans hline),
      objDraw_getD s y i hline hx, List.filter_cons]
    split
    · rw [List.getLast?_cons]
      cases (order.filter (spriteDraws s x y)).getLast? <;> rfl
    · rfl

theorem topSprite_eq (s : State) (sel : List Nat) (x y : Nat) :
    topSprite s sel x y = ((objOrder s sel).filter (spriteDraws s x y)).getLast? := by
  cases h : s.cfg.objOverlap with
  | laterWins => simp only [topSprite, objOrder, h]
  | firstWins => simp only [topSprite, objOrder, h, List.filter_reverse, List.getLast?_reverse]

/-- The shade of the background or window at pixel (x, y). -/
def backPixel (s : State) (x y : Nat) : BitVec 32 :=
  shadePixel s (shadeIndex (memRead s 0xFF47#16) (screenColour s x y))

/-- Pixel (x, y) as rendering line `y` draws it. -/
def drawnPixel (s : State) (x y : Nat) : BitVec 32 :=
  if (memRead s 0xFF40#16).getLsbD 1 then
    ((topSprite s (objSelect s y) x y).map fun i => spritePixel s i x y).getD (backPixel s x y)
  else backPixel s x y

theorem linePixels_getD (s : State) (y : Nat) {x : Nat} (hx : x < 160) :
    (linePixels s y).getD x 0#32 = drawnPixel s x y := by
  have hlength : ((bgLine s y).map (palettePixel s (s.io 0x47))).length = 160 := by simp [bgLine]
  have hback : ((bgLine s y).map (palettePixel s (s.io 0x47))).getD x 0#32 = backPixel s x y := by
    rw [backPixel, memRead_bgp, ← bgColour_toNat, ← palettePixel_eq]
    simp [bgLine, hx]
  simp only [linePixels, drawnPixel, memRead_lcdc]
  split
  · rw [objDraws_getD s y hx _ hlength, topSprite_eq, hback]
  · exact hback

theorem Inv.fbOk {s : State} (h : Inv s) : FbOk s := ⟨h.ppu.fb_wf, h.ppu.fb_keys⟩

/-- Every pixel after rendering line `y`: its row is drawn, and every other row is as before. -/
theorem pixelAt_renderLine {s : State} (h : FbOk s) {x : Nat} (hx : x < 160) (y row : Nat) :
    pixelAt (renderLine y s) x row = if row = y then drawnPixel s x row else pixelAt s x row := by
  rw [pixelAt, renderLine, fbAt_drawPixels h, linePixels_length]
  by_cases hrow : row = y
  · subst hrow
    rw [if_pos (by omega), if_pos rfl, Nat.add_sub_cancel_left, linePixels_getD s row hx]
  · rw [if_neg (by omega), if_neg hrow, pixelAt]

/-- Settles O32: with LCDC bit 1 clear the pixel drawn is the background's or the window's. -/
theorem renderBackground : Obligations.RenderBackground := by
  intro s y hs hy
  refine ⟨renderLine_frame y s, fun x row hx _ hne => ?_, fun hoff x hx => ?_⟩
  · rw [pixelAt_renderLine hs.fbOk hx, if_neg hne]
  · rw [pixelAt_renderLine hs.fbOk hx, if_pos rfl, drawnPixel, hoff]
    rfl

/-- Settles O33: with LCDC bit 1 set the pixel drawn is the topmost drawing sprite's, if there is
one. -/
theorem renderSprites : Obligations.RenderSprites := by
  intro s y x hs hy hx hon
  rw [pixelAt_renderLine hs.fbOk hx, if_pos rfl, drawnPixel, if_pos hon]
  cases topSprite s (objSelect s y) x y <;> rfl

end Sys2Proof.Machine
end

section
/-!
PROOFS. The PPU tick: its counters and mode, the lines it enters, the requests it makes and the rows
it draws.
-/

namespace Sys2Proof.Machine

/-! ## The counters and the mode (R1150-R1157) -/

theorem modeOf_vBlank {ly : Nat} (h : 144 ≤ ly) (dot : Nat) : modeOf ly dot = .vBlank :=
  if_pos h

theorem modeOf_oamSearch {ly dot : Nat} (hly : ly < 144) (h : dot < 80) :
    modeOf ly dot = .oamSearch := by
  rw [modeOf, if_neg (by omega), if_pos h]

theorem modeOf_drawing {ly dot : Nat} (hly : ly < 144) (h1 : 80 ≤ dot) (h2 : dot < 252) :
    modeOf ly dot = .drawing := by
  rw [modeOf, if_neg (by omega), if_neg (by omega), if_pos h2]

theorem modeOf_hBlank {ly dot : Nat} (hly : ly < 144) (h : 252 ≤ dot) :
    modeOf ly dot = .hBlank := by
  rw [modeOf, if_neg (by omega), if_neg (by omega), if_neg (by omega)]

/-- Settles O28: the counters in closed form, and the mode their final values give. -/
theorem ppuCounters : Obligations.PpuCounters := by
  intro s d
  rw [memRead_lcdc]
  refine ⟨fun hoff => ppuTick_off hoff d, fun hon hdot hly => ?_⟩
  obtain ⟨hdot', hly', hmode⟩ := ppuTick_counters hon hly d
  refine ⟨hdot', hly', fun h => ?_, fun h h1 => ?_, fun h h1 h2 => ?_, fun h h1 => ?_, ?_⟩
  · rw [hmode, modeOf_vBlank h]
  · rw [hmode, modeOf_oamSearch h h1]
  · rw [hmode, modeOf_drawing h h1 h2]
  · rw [hmode, modeOf_hBlank h h1]
  · rintro rfl
    omega

/-! ## The lines a tick enters (R1150, R1151) -/

/-- The lines entered by crossing `n` line boundaries from line `ly`, in order. -/
def linesEntered (ly n : Nat) : List Nat := (List.range n).map fun k => (ly + 1 + k) % 154

theorem linesEntered_succ (ly n : Nat) :
    linesEntered ly (n + 1) = (ly + 1) % 154 :: linesEntered ((ly + 1) % 154) n := by
  rw [linesEntered, List.range_succ_eq_map, List.map_cons, List.map_map]
  refine congrArg _ (List.map_congr_left fun k _ => ?_)
  simp only [Function.comp]
  omega

theorem mem_linesEntered {ly n y : Nat} :
    y ∈ linesEntered ly n ↔ ∃ k, 1 ≤ k ∧ k ≤ n ∧ (ly + k) % 154 = y := by
  simp only [linesEntered, List.mem_map, List.mem_range]
  constructor
  · rintro ⟨k, hk, rfl⟩
    exact ⟨k + 1, by omega, by omega, by rw [Nat.add_assoc, Nat.add_comm 1 k]⟩
  · rintro ⟨k, h1, h2, rfl⟩
    exact ⟨k - 1, by omega, by rw [Nat.add_assoc, Nat.add_sub_cancel' h1]⟩

theorem crossLine_ly (s : State) : (crossLine s).ppu.ly = (s.ppu.ly + 1) % 154 := by
  obtain ⟨-, -, -, -, -, -, hly, -⟩ := crossLine_frame s
  exact hly

/-! ## The requests of a tick (R1160-R1162) -/

/-- IF as it is stored after a tick's line boundary: bit 0 is set on entering line 144. -/
theorem crossLine_if (s : State) :
    (crossLine s).io 0x0F =
      if (s.ppu.ly + 1) % 154 = 144 then (request 0 s).io 0x0F else s.io 0x0F := by
  have hmem : (lineEntered s).bus.mem = s.bus.mem := by rw [lineEntered_frame]
  rw [crossLine_eq]
  split
  · refine State.io_congr ?_ _
    simp only [request, State.setIo, State.setMemAt, State.io_congr hmem, hmem]
  · exact State.io_congr hmem _

theorem request_getLsbD {s : State} (hs : Memory.wf .internal s.bus.mem = true) {k : Nat}
    (hk : k < 8) (j : Nat) :
    ((request k s).io 0x0F).getLsbD j = true ↔ (s.io 0x0F).getLsbD j = true ∨ j = k := by
  by_cases h : j = k
  · subst h
    simp [request_getLsbD_self hs hk]
  · simp [request_getLsbD_of_ne hs h, h]

/-- A line boundary sets bit 0 of IF on entering line 144 and changes no other bit. -/
theorem crossLine_if_getLsbD {s : State} (hs : Memory.wf .internal s.bus.mem = true) (j : Nat) :
    ((crossLine s).io 0x0F).getLsbD j = true ↔
      (s.io 0x0F).getLsbD j = true ∨ (j = 0 ∧ (s.ppu.ly + 1) % 154 = 144) := by
  rw [crossLine_if]
  split
  · next h => simp [request_getLsbD hs, h]
  · next h => simp [h]

/-- Line boundaries set bit 0 of IF if one of them enters line 144, and change no other bit. -/
theorem crossLines_if_getLsbD (n : Nat) {s : State} (hs : BusOk s.cfg s.bus) (j : Nat) :
    ((crossLines n s).io 0x0F).getLsbD j = true ↔
      (s.io 0x0F).getLsbD j = true ∨ (j = 0 ∧ 144 ∈ linesEntered s.ppu.ly n) := by
  induction n generalizing s with
  | zero => simp [crossLines, linesEntered]
  | succ n ih =>
    rw [crossLines, ih hs.crossLine, crossLine_if_getLsbD hs.mem_wf, crossLine_ly,
      linesEntered_succ, List.mem_cons, and_or_left, or_assoc, eq_comm (a := 144)]

/-- The state at the end of a tick's line boundaries, the mode updated. -/
def linesCrossed (d : Nat) (s : State) : State :=
  updateMode (crossLines ((s.ppu.dot + d) / 456)
    { s with ppu := { s.ppu with dot := s.ppu.dot + d } })

theorem ppuTick_eq {s : State} (hon : (s.io 0x40).getLsbD 7 = true) (d : Nat) :
    ppuTick d s = updateStatLine (linesCrossed d s) :=
  ppuTick_on hon d

theorem BusOk.linesCrossed {s : State} (hs : BusOk s.cfg s.bus) (d : Nat) :
    BusOk (linesCrossed d s).cfg (linesCrossed d s).bus :=
  BusOk.crossLines ((s.ppu.dot + d) / 456)
    (s := { s with ppu := { s.ppu with dot := s.ppu.dot + d } }) hs

theorem linesCrossed_statLine (d : Nat) (s : State) :
    (linesCrossed d s).ppu.statLine = s.ppu.statLine := by
  obtain ⟨-, -, -, -, -, -, -, -, h⟩ := crossLines_frame ((s.ppu.dot + d) / 456)
    { s with ppu := { s.ppu with dot := s.ppu.dot + d } }
  exact h

theorem linesCrossed_if_getLsbD {s : State} (hs : BusOk s.cfg s.bus) (d j : Nat) :
    ((linesCrossed d s).io 0x0F).getLsbD j = true ↔ (s.io 0x0F).getLsbD j = true ∨
      (j = 0 ∧ 144 ∈ linesEntered s.ppu.ly ((s.ppu.dot + d) / 456)) :=
  crossLines_if_getLsbD _ (s := { s with ppu := { s.ppu with dot := s.ppu.dot + d } }) hs j

theorem updateStatLine_if (s : State) :
    (updateStatLine s).io 0x0F =
      if statLineNow s = true ∧ s.ppu.statLine = false then (request 1 s).io 0x0F
      else s.io 0x0F := by
  simp only [updateStatLine, Bool.and_eq_true, Bool.not_eq_true']
  split <;> rfl

/-- The update of the STAT line sets bit 1 of IF on a rising edge and changes no other bit. -/
theorem updateStatLine_if_getLsbD {s : State} (hs : Memory.wf .internal s.bus.mem = true)
    (j : Nat) :
    ((updateStatLine s).io 0x0F).getLsbD j = true ↔ (s.io 0x0F).getLsbD j = true ∨
      (j = 1 ∧ statLineNow s = true ∧ s.ppu.statLine = false) := by
  rw [updateStatLine_if]
  split
  · next h => simp [request_getLsbD hs, h]
  · next h => simp [h]

/-- The update of the STAT line stores no byte but IF. -/
theorem updateStatLine_io {s : State} (hs : Memory.wf .internal s.bus.mem = true) {n : Nat}
    (hn : n ≠ 0x0F) : (updateStatLine s).io n = s.io n := by
  simp only [updateStatLine]
  split
  · exact (State.io_setIo hs _ _ _).trans (if_neg hn)
  · rfl

/-- The STAT line depends on the selects, LYC, the scanline and the mode, and on nothing that its
own update writes. -/
theorem statLineNow_congr {s t : State} (hstat : t.io 0x41 = s.io 0x41)
    (hlyc : t.io 0x45 = s.io 0x45) (hly : t.ppu.ly = s.ppu.ly) (hmode : t.ppu.mode = s.ppu.mode) :
    statLineNow t = statLineNow s := by
  simp only [statLineNow, hstat, hlyc, hly, hmode]

theorem statLineNow_iff (s : State) :
    statLineNow s = true ↔
      ((s.io 0x41).getLsbD 6 = true ∧ s.ppu.ly = (s.io 0x45).toNat) ∨
      ((s.io 0x41).getLsbD 3 = true ∧ s.ppu.mode = .hBlank) ∨
      ((s.io 0x41).getLsbD 4 = true ∧ s.ppu.mode = .vBlank) ∨
      ((s.io 0x41).getLsbD 5 = true ∧ s.ppu.mode = .oamSearch) := by
  simp only [statLineNow, Bool.or_eq_true, Bool.and_eq_true, decide_eq_true_iff, or_assoc]

/-- After a tick the STAT line is what its sources give at the final scanline and mode (R1160). -/
theorem ppuTick_statLine {s : State} (hs : BusOk s.cfg s.bus) (hon : (s.io 0x40).getLsbD 7 = true)
    (d : Nat) : (ppuTick d s).ppu.statLine = statLineNow (ppuTick d s) := by
  have hwf := (hs.linesCrossed d).mem_wf
  obtain ⟨-, -, -, -, -, hppu⟩ := updateStatLine_frame (linesCrossed d s)
  rw [ppuTick_eq hon, statLineNow_congr (updateStatLine_io hwf (by decide))
    (updateStatLine_io hwf (by decide)) (by rw [hppu]) (by rw [hppu]), hppu]

/-- Every source's bit of IF after a tick: VBlank on entering line 144, STAT on the rising edge. -/
theorem memRead_if_ppuTick {s : State} (hs : BusOk s.cfg s.bus)
    (hon : (s.io 0x40).getLsbD 7 = true) (d : Nat) {j : Nat} (hj : j < 5) :
    (memRead (ppuTick d s) 0xFF0F#16).getLsbD j = true ↔
      (memRead s 0xFF0F#16).getLsbD j = true ∨
        (j = 0 ∧ 144 ∈ linesEntered s.ppu.ly ((s.ppu.dot + d) / 456)) ∨
        (j = 1 ∧ (ppuTick d s).ppu.statLine = true ∧ s.ppu.statLine = false) := by
  obtain ⟨-, -, -, -, -, hppu⟩ := updateStatLine_frame (linesCrossed d s)
  rw [memRead_if_getLsbD _ hj, memRead_if_getLsbD _ hj, ppuTick_eq hon,
    updateStatLine_if_getLsbD (hs.linesCrossed d).mem_wf, linesCrossed_if_getLsbD hs,
    linesCrossed_statLine, hppu, or_assoc]

/-- The bus shows the four selects of STAT as they are stored (R142). -/
theorem memRead_stat_getLsbD (s : State) {j : Nat} (h1 : 3 ≤ j) (h2 : j < 7) :
    (memRead s 0xFF41#16).getLsbD j = (s.io 0x41).getLsbD j := by
  have hmasks : (0x80#8).getLsbD j = false ∧ (0x78#8).getLsbD j = true ∧
      (0x04#8).getLsbD j = false ∧ ∀ m, (modeCode m).getLsbD j = false := by
    obtain rfl | rfl | rfl | rfl : j = 3 ∨ j = 4 ∨ j = 5 ∨ j = 6 := by omega
    all_goals exact ⟨rfl, rfl, rfl, fun m => by cases m <;> rfl⟩
  obtain ⟨h80, h78, h04, hmode⟩ := hmasks
  have hlyc : (if s.ppu.ly = (s.io 0x45).toNat then 0x04#8 else 0x00#8).getLsbD j = false := by
    split
    · exact h04
    · exact BitVec.getLsbD_zero
  rw [memRead_stat, statRead, BitVec.getLsbD_or, BitVec.getLsbD_or, BitVec.getLsbD_or,
    BitVec.getLsbD_and, h80, h78, hlyc, hmode]
  simp

/-- Settles O29: the boundaries request VBlank, and the update of the STAT line requests STAT. -/
theorem ppuRequests : Obligations.PpuRequests := by
  intro s d hs hon
  rw [memRead_lcdc] at hon
  have hbit := fun j (hj : j < 5) => memRead_if_ppuTick hs.bus hon d hj
  have hcell := (ppuTick_onlyRequests hs.bus.mem_wf d).cell
  refine ⟨?_, ?_, ?_⟩
  · rw [hbit 0 (by decide)]
    simp [mem_linesEntered]
  · rw [ppuTick_statLine hs.bus hon, statLineNow_iff]
    simp (disch := decide) only [memRead_stat_getLsbD, memRead_lyc, State.io, hcell]
  · rw [hbit 1 (by decide)]
    simp

/-! ## What the picture depends on (R1158) -/

/-- `s` and `t` agree on all that the renderer reads: the parameters, and memory but for IF, STAT
and LY. -/
structure SameScreen (s t : State) : Prop where
  cfg : t.cfg = s.cfg
  reads : ∀ a : Word, a ≠ 0xFF0F#16 → a ≠ 0xFF41#16 → a ≠ 0xFF44#16 → memRead t a = memRead s a

theorem SameScreen.trans {s t u : State} (h : SameScreen s t) (h' : SameScreen t u) :
    SameScreen s u :=
  ⟨h'.cfg.trans h.cfg, fun a h1 h2 h3 => (h'.reads a h1 h2 h3).trans (h.reads a h1 h2 h3)⟩

theorem sameScreen_withPpu (s : State) (p : Ppu) : SameScreen s { s with ppu := p } := by
  refine ⟨rfl, fun a _ hstat hly => ?_⟩
  have hview : SameView a s { s with ppu := p } :=
    { SameView.refl a s with
      ppu := fun h => absurd h (not_or.mpr ⟨fun h => hstat (BitVec.eq_of_toNat_eq h),
        fun h => hly (BitVec.eq_of_toNat_eq h)⟩) }
  exact hview.memRead_eq

theorem sameScreen_request {s : State} (hs : BusOk s.cfg s.bus) (k : Nat) :
    SameScreen s (request k s) :=
  ⟨rfl, fun _ hif _ _ => memRead_setIf_other hs hif _⟩

/-- A sprite that covers the line has its bitplane bytes in the tile data from 0x8000 on. -/
theorem spriteRowAddr_lt {s : State} {i y : Nat} (h : spriteCovers s y i) :
    spriteRowAddr s i y + 1 < 0x9010 := by
  obtain ⟨h1, h2⟩ := h
  have htile := (spriteByte s i 2).isLt
  have hheight : spriteHeight s ≤ 16 := by
    rw [spriteHeight]
    split <;> omega
  simp only [spriteRowAddr]
  split_ifs <;> omega

/-- The topmost sprite is one of those it is chosen from. -/
theorem topSprite_mem {s : State} {sel : List Nat} {x y i : Nat}
    (h : topSprite s sel x y = some i) : i ∈ sel := by
  rw [topSprite] at h
  split at h
  · exact List.mem_of_mem_filter (List.mem_of_getLast? h)
  · exact List.mem_of_mem_filter (List.mem_of_head? h)

section

variable {s t : State} (h : SameScreen s t)

include h

/-- Below the I/O registers the two states read the same. -/
theorem SameScreen.read_below {n : Nat} (hn : n < 0xFF00) :
    memRead t (BitVec.ofNat 16 n) = memRead s (BitVec.ofNat 16 n) := by
  have hne (w : Word) (hw : 0xFF00 ≤ w.toNat) : BitVec.ofNat 16 n ≠ w := by
    rintro rfl
    rw [BitVec.toNat_ofNat] at hw
    omega
  exact h.reads _ (hne _ (by decide)) (hne _ (by decide)) (hne _ (by decide))

theorem SameScreen.lcdc : memRead t 0xFF40#16 = memRead s 0xFF40#16 :=
  h.reads _ (by decide) (by decide) (by decide)

theorem SameScreen.shadePixel (n : Nat) : shadePixel t n = shadePixel s n := by
  rw [Machine.shadePixel, Machine.shadePixel, h.cfg]

theorem SameScreen.tileColour {idx row : Nat} (hidx : idx < 256) (hrow : row < 8) (col : Nat) :
    tileColour t idx row col = tileColour s idx row col := by
  have hbase : tileBase t idx = tileBase s idx := by rw [tileBase, tileBase, h.lcdc]
  have hlt := tileBase_lt s hidx
  rw [tileColour_eq, tileColour_eq, hbase, h.read_below (by omega), h.read_below (by omega)]

theorem SameScreen.planeColourAt {map px py : Nat} (hmap : map ≤ 0x9C00) (hpx : px < 256)
    (hpy : py < 256) : planeColourAt t map px py = planeColourAt s map px py := by
  rw [Machine.planeColourAt, Machine.planeColourAt, h.read_below (by omega),
    h.tileColour (BitVec.isLt _) (Nat.mod_lt _ (by decide))]

theorem SameScreen.screenColour {x y : Nat} (hx : x < 160) (hy : y < 144) :
    screenColour t x y = screenColour s x y := by
  have hmap (b : Bool) : (if b = true then 0x9C00 else 0x9800) ≤ 0x9C00 := by cases b <;> decide
  simp (disch := decide) only [Machine.screenColour, h.cfg, h.reads]
  rw [h.planeColourAt (hmap _) (by omega) (by omega),
    h.planeColourAt (hmap _) (by omega) (by omega)]

theorem SameScreen.backPixel {x y : Nat} (hx : x < 160) (hy : y < 144) :
    backPixel t x y = backPixel s x y := by
  rw [Machine.backPixel, Machine.backPixel, h.reads 0xFF47#16 (by decide) (by decide) (by decide),
    h.screenColour hx hy, h.shadePixel]

theorem SameScreen.spriteByte {i j : Nat} (hi : i < 40) (hj : j < 4) :
    spriteByte t i j = spriteByte s i j :=
  h.read_below (by omega)

theorem SameScreen.spriteHeight : spriteHeight t = spriteHeight s := by
  rw [Machine.spriteHeight, Machine.spriteHeight, h.lcdc]

theorem SameScreen.objSelect (y : Nat) : objSelect t y = objSelect s y := by
  have hcovers : ∀ i ∈ List.range 40, objCovers t y i = objCovers s y i := fun i hi => by
    rw [Bool.eq_iff_iff, objCovers_iff, objCovers_iff, spriteCovers, spriteCovers, h.spriteHeight,
      h.spriteByte (List.mem_range.mp hi) (by decide)]
  rw [Machine.objSelect, Machine.objSelect, List.filter_congr hcovers]

theorem SameScreen.spriteRowAddr {i : Nat} (hi : i < 40) (y : Nat) :
    spriteRowAddr t i y = spriteRowAddr s i y := by
  rw [Machine.spriteRowAddr, Machine.spriteRowAddr, h.spriteHeight, h.spriteByte hi (by decide),
    h.spriteByte hi (by decide), h.spriteByte hi (by decide)]

theorem SameScreen.spriteColour {i y : Nat} (hi : i < 40) (hcovers : spriteCovers s y i) (x : Nat) :
    spriteColour t i x y = spriteColour s i x y := by
  have haddr := spriteRowAddr_lt hcovers
  rw [spriteColour_eq, spriteColour_eq, spriteColumn, spriteColumn, spriteLeft, spriteLeft,
    h.spriteRowAddr hi, h.spriteByte hi (by decide), h.spriteByte hi (by decide),
    h.read_below (by omega), h.read_below (by omega)]

theorem SameScreen.spritePixel {i y : Nat} (hi : i < 40) (hcovers : spriteCovers s y i) (x : Nat) :
    spritePixel t i x y = spritePixel s i x y := by
  rw [Machine.spritePixel, Machine.spritePixel, h.spriteByte hi (by decide),
    h.spriteColour hi hcovers, h.shadePixel, h.reads 0xFF48#16 (by decide) (by decide) (by decide),
    h.reads 0xFF49#16 (by decide) (by decide) (by decide)]

theorem SameScreen.spriteDraws {i x y : Nat} (hi : i < 40) (hcovers : spriteCovers s y i)
    (hx : x < 160) (hy : y < 144) : spriteDraws t x y i = spriteDraws s x y i := by
  rw [Machine.spriteDraws, Machine.spriteDraws, h.spriteByte hi (by decide),
    h.spriteColour hi hcovers, h.screenColour hx hy, h.cfg]

theorem SameScreen.topSprite {x y : Nat} (hx : x < 160) (hy : y < 144) :
    topSprite t (Machine.objSelect s y) x y = topSprite s (Machine.objSelect s y) x y := by
  have hdraws : (Machine.objSelect s y).filter (Machine.spriteDraws t x y) =
      (Machine.objSelect s y).filter (Machine.spriteDraws s x y) :=
    List.filter_congr fun i hi => by
      obtain ⟨hlt, hcovers⟩ := mem_objSelect hi
      exact h.spriteDraws hlt hcovers hx hy
  rw [Machine.topSprite, Machine.topSprite, h.cfg, hdraws]

/-- Two states that agree on all that the renderer reads draw the same pixels. -/
theorem SameScreen.drawnPixel {x y : Nat} (hx : x < 160) (hy : y < 144) :
    drawnPixel t x y = drawnPixel s x y := by
  rw [Machine.drawnPixel, Machine.drawnPixel, h.lcdc, h.objSelect, h.topSprite hx hy,
    h.backPixel hx hy]
  congr 2
  refine Option.map_congr fun i hi => ?_
  obtain ⟨hlt, hcovers⟩ := mem_objSelect (topSprite_mem hi)
  exact h.spritePixel hlt hcovers x

end

/-! ## The rows a tick draws (R1150, R1151, R1158, R1159) -/

theorem sameScreen_renderLine (y : Nat) (s : State) : SameScreen s (renderLine y s) := by
  rw [renderLine_frame]
  exact sameScreen_withPpu s _

theorem sameScreen_crossLine {s : State} (hs : BusOk s.cfg s.bus) : SameScreen s (crossLine s) := by
  have hframe := lineEntered_frame s
  have hentered : SameScreen s (lineEntered s) := by
    rw [hframe]
    exact sameScreen_withPpu s _
  have hbus : BusOk (lineEntered s).cfg (lineEntered s).bus := by
    rw [hframe]
    exact hs
  rw [crossLine_eq]
  split
  · exact hentered.trans (sameScreen_request hbus 0)
  · exact hentered

/-- Lines rendered in turn: their rows are drawn, and every other row is as before. -/
theorem pixelAt_renderLines (lines : List Nat) (hlines : ∀ line ∈ lines, line < 144) {s : State}
    (hfb : FbOk s) {x y : Nat} (hx : x < 160) (hy : y < 144) :
    pixelAt (lines.foldl (fun t line => renderLine line t) s) x y =
      if y ∈ lines then drawnPixel s x y else pixelAt s x y := by
  induction lines generalizing s with
  | nil => rfl
  | cons line lines ih =>
    rw [List.forall_mem_cons] at hlines
    rw [List.foldl_cons, ih hlines.2 (renderLine_fbOk hfb hlines.1),
      (sameScreen_renderLine line s).drawnPixel hx hy, pixelAt_renderLine hfb hx, ← ite_or]
    exact if_congr (by rw [List.mem_cons, or_comm]) rfl rfl

theorem pixelAt_congr {s t : State} (hcfg : t.cfg = s.cfg) (hfb : t.ppu.fb = s.ppu.fb) (x y : Nat) :
    pixelAt t x y = pixelAt s x y := by
  rw [pixelAt, pixelAt, State.fbAt, State.fbAt, hcfg, hfb]

/-- The counters of the PPU do not matter to a line being rendered. -/
theorem pixelAt_renderLine_withPpu {s : State} (hfb : FbOk s) {p : Ppu} (hp : p.fb = s.ppu.fb)
    {x y : Nat} (hx : x < 160) (hy : y < 144) (line : Nat) :
    pixelAt (renderLine line { s with ppu := p }) x y =
      if y = line then drawnPixel s x y else pixelAt s x y := by
  have hfb' : FbOk { s with ppu := p } := ⟨by rw [hp]; exact hfb.wf, by rw [hp]; exact hfb.keys⟩
  rw [pixelAt_renderLine hfb' hx, (sameScreen_withPpu s p).drawnPixel hx hy,
    pixelAt_congr (s := s) (t := { s with ppu := p }) rfl hp]

/-- A line boundary draws the row of the line it enters. -/
theorem pixelAt_crossLine {s : State} (hfb : FbOk s) {x y : Nat} (hx : x < 160) (hy : y < 144) :
    pixelAt (crossLine s) x y =
      if y = (s.ppu.ly + 1) % 154 then drawnPixel s x y else pixelAt s x y := by
  have hkeep : pixelAt (crossLine s) x y = pixelAt (lineEntered s) x y := by
    rw [crossLine_eq]
    split
    · exact pixelAt_congr rfl rfl x y
    · rfl
  rw [hkeep, lineEntered]
  split
  · exact pixelAt_renderLine_withPpu hfb (by rfl) hx hy _
  · rw [if_neg (by omega)]
    exact pixelAt_congr (by rfl) (by rfl) x y

/-- Line boundaries draw the rows of the visible lines they enter, and no other row. -/
theorem pixelAt_crossLines (n : Nat) {s : State} (hs : BusOk s.cfg s.bus) (hfb : FbOk s) {x y : Nat}
    (hx : x < 160) (hy : y < 144) :
    pixelAt (crossLines n s) x y =
      if y ∈ linesEntered s.ppu.ly n then drawnPixel s x y else pixelAt s x y := by
  induction n generalizing s with
  | zero => rfl
  | succ n ih =>
    rw [crossLines, ih hs.crossLine (crossLine_fbOk hfb), crossLine_ly, linesEntered_succ,
      (sameScreen_crossLine hs).drawnPixel hx hy, pixelAt_crossLine hfb hx hy, ← ite_or]
    exact if_congr (by rw [List.mem_cons, or_comm]) rfl rfl

/-- Every pixel after a tick: the rows of the visible lines entered are drawn. -/
theorem pixelAt_ppuTick {s : State} (hs : Inv s) (hon : (s.io 0x40).getLsbD 7 = true) (d : Nat)
    {x y : Nat} (hx : x < 160) (hy : y < 144) :
    pixelAt (ppuTick d s) x y =
      if y ∈ linesEntered s.ppu.ly ((s.ppu.dot + d) / 456) then drawnPixel s x y
      else pixelAt s x y := by
  have hfb : pixelAt (ppuTick d s) x y = pixelAt (linesCrossed d s) x y := by
    obtain ⟨hcfg, -, -, -, -, hppu⟩ := updateStatLine_frame (linesCrossed d s)
    rw [ppuTick_eq hon]
    exact pixelAt_congr hcfg (by rw [hppu]) x y
  have hcrossed := pixelAt_crossLines ((s.ppu.dot + d) / 456)
    (s := { s with ppu := { s.ppu with dot := s.ppu.dot + d } }) hs.bus
    ⟨hs.ppu.fb_wf, hs.ppu.fb_keys⟩ hx hy
  rw [(sameScreen_withPpu s _).drawnPixel hx hy] at hcrossed
  exact hfb.trans hcrossed

/-- Settles O31: rendering the lines entered in turn and the tick draw the same rows from the same
memory. -/
theorem lineEntryDraws : Obligations.LineEntryDraws := by
  intro s d x y hs hon hx hy entered
  rw [memRead_lcdc] at hon
  have hpixel : pixelAt (ppuTick d s) x y =
      if y ∈ entered then drawnPixel s x y else pixelAt s x y :=
    pixelAt_ppuTick hs hon d hx hy
  refine ⟨?_, fun hmem => ?_, fun hmem => ?_⟩
  · have hvisible : ∀ line ∈ entered.filter (· < 144), line < 144 := fun line hline =>
      of_decide_eq_true (List.mem_filter.mp hline).2
    have hmem : y ∈ entered ↔ y ∈ entered.filter (· < 144) := by
      rw [List.mem_filter, decide_eq_true_iff, and_iff_left hy]
    rw [hpixel, pixelAt_renderLines _ hvisible hs.fbOk hx hy]
    exact if_congr hmem rfl rfl
  · rw [hpixel, if_pos hmem, pixelAt_renderLine hs.fbOk hx, if_pos rfl]
  · rw [hpixel, if_neg hmem]

end Sys2Proof.Machine
end
